-- ==== Sys2Proof/Word.lean ====
section
/-! DEFINITION. The word types of LSLC: bytes and the 16-bit fields of a frame. A time value is a plain `Nat`, a count of the CLOCK's ticks that does not wrap (R8). -/

namespace Sys2Proof

/-- One byte, bit 7 the most significant (R9). -/
abbrev Byte := BitVec 8

/-- A 16-bit field or register: `send_seq`, `recv_seq`, the length field, the CRC-16 (R9, R22, R63). -/
abbrev Half := BitVec 16

end Sys2Proof
end

