-- ==== Sys2Proof/Config.lean ====
section
/-! DEFINITION. What is fixed while the block runs (parameters P1 to P20 of R6), and the free values the spec leaves open. -/

namespace Sys2Proof

/-- Which algorithm a checksum parameter (P7 or P8) names.
The spec leaves both open (R125): `other n` names an algorithm of which nothing is known. -/
inductive CrcAlg where
  /-- The reference configuration's algorithm (R15). -/
  | ref
  /-- Any other total function of the parameter's type, by number: an uninterpreted one. -/
  | other (n : Nat)
  deriving DecidableEq, Repr

/-- The parameter record of R6, one field for every parameter whose value the source does not fix. -/
structure Config where
  /-- P1 SYNC. -/
  sync : Byte
  /-- P2 I_MARK. -/
  iMark : Byte
  /-- P3 U_MARK. -/
  uMark : Byte
  /-- P4 A_MARK. -/
  aMark : Byte
  /-- P5 END_MARK. -/
  endMark : Byte
  /-- P6e CODE_STOP. -/
  codeStop : Byte
  /-- P6f CODE_STOP_CON. -/
  codeStopCon : Byte
  /-- P6g CODE_RESET. -/
  codeReset : Byte
  /-- P6h CODE_RESET_CON. -/
  codeResetCon : Byte
  /-- P7: the algorithm of `crc8`. -/
  crc8Alg : CrcAlg
  /-- P8: the algorithm of `crc16`. -/
  crc16Alg : CrcAlg
  /-- P9 MAX_PAYLOAD, the transmit chunk size. -/
  maxPayload : Nat
  /-- P10 RX_MAX_PAYLOAD, the receive limit. -/
  rxMaxPayload : Nat
  /-- P11 QUEUE_DEPTH. -/
  queueDepth : Nat
  /-- P12 REASM_CAPACITY. -/
  reasmCapacity : Nat
  /-- P13 TICKS_PER_SECOND: the ticks in a second, of which `timeAlive` and `timeHeart` are whole multiples (R8). -/
  ticksPerSecond : Nat
  /-- P14 TIME_ALIVE, in ticks: 15 seconds of them in a well-formed assignment (R6, R8, D1). -/
  timeAlive : Nat
  /-- P15 TIME_HEART, in ticks: 20 seconds of them in a well-formed assignment (R6, R8, D1). -/
  timeHeart : Nat
  /-- P17 STRICT_MARKERS. -/
  strictMarkers : Bool
  /-- P18 T_IDLE, milliseconds of the message-idle read class. -/
  tIdle : Nat
  /-- P19 T_CHAR, milliseconds of the inter-character read class. -/
  tChar : Nat
  /-- P20 TIME_W: the width of time values in bits, `none` for unbounded. -/
  timeW : Option Nat
  deriving DecidableEq, Repr

/-- P6a CODE_START = 0x04, fixed by the source (R6, R87, C1). -/
def Config.codeStart (_c : Config) : Byte := 0x04#8
/-- P6b CODE_START_CON = 0x08 (R6, R87, C1). -/
def Config.codeStartCon (_c : Config) : Byte := 0x08#8
/-- P6c CODE_TEST = 0x40 (R6, R87, C1). -/
def Config.codeTest (_c : Config) : Byte := 0x40#8
/-- P6d CODE_TEST_CON = 0x80 (R6, R87, C1). -/
def Config.codeTestCon (_c : Config) : Byte := 0x80#8
/-- P16 PROBE_LIMIT = 2, fixed by the source (R6, R175, C10). -/
def Config.probeLimit (_c : Config) : Nat := 2

/-- The reference configuration REF (R6's REF column, R15, D37), in which the spec gives its test vectors. The two read timeouts, which REF leaves out, are 0 (DESIGN CHOICE, log entry 11). -/
def Config.ref : Config where
  sync := 0xA5#8
  iMark := 0x68#8
  uMark := 0x10#8
  aMark := 0xE5#8
  endMark := 0x16#8
  codeStop := 0x10#8
  codeStopCon := 0x20#8
  codeReset := 0x01#8
  codeResetCon := 0x02#8
  crc8Alg := .ref
  crc16Alg := .ref
  maxPayload := 4
  rxMaxPayload := 4
  queueDepth := 16
  reasmCapacity := 64
  ticksPerSecond := 1000
  timeAlive := 15000
  timeHeart := 20000
  strictMarkers := true
  tIdle := 0
  tChar := 0
  timeW := none

/-- The source's seconds value of the alive timeout (R6's P14, D1). -/
def Config.aliveSeconds : Nat := 15
/-- The source's seconds value of the heartbeat timeout (R6's P15, D1). -/
def Config.heartSeconds : Nat := 20

/-- The answer of one `RxRead` (R11, R230). -/
inductive ReadAnswer where
  /-- `Byte b`: one byte, consumed from the stream. -/
  | byte (b : Byte)
  /-- None within the timeout. -/
  | timeout
  /-- A read failure. -/
  | error
  deriving DecidableEq, Repr, Inhabited

/-- What the transport's `Write` returns: a count of bytes written, or a failure (R230). -/
inductive WriteResult where
  | count (n : Nat)
  | failure
  deriving DecidableEq, Repr, Inhabited

/-- One move of an agent (R3, R178), with every draw it makes. -/
inductive Action where
  /-- HOST issues the command of these bytes: the code byte, then its operand bytes (R92). -/
  | host (bytes : List Byte)
  /-- ENGINE takes one step: the TRANSPORT's answer to its read and to its write, should it make them (R11, U7). -/
  | engine (read : ReadAnswer) (write : WriteResult)
  /-- CLOCK advances `now` by `ticks` (R8, U8: any amount, never backwards). -/
  | clock (ticks : Nat)
  deriving DecidableEq, Repr, Inhabited

/-- FREE VALUE (DESIGN CHOICE, log entry 3). Which agent moves, and with what draws, once the listed schedule is used up. -/
opaque Config.freeAction : Nat → Action
/-- FREE VALUE (DESIGN CHOICE, log entry 2). The CRC-8 of an algorithm the spec leaves open (P7, R125, D5). -/
opaque Config.freeCrc8 : Nat → Byte → Byte
/-- FREE VALUE (DESIGN CHOICE, log entry 2). The CRC-16 of an algorithm the spec leaves open (P8, R125, D5). -/
opaque Config.freeCrc16 : Nat → List Byte → Half

end Sys2Proof
end

