-- ==== Sys2Proof/Syntax.lean ====
section
/-! DEFINITION. The instructions of LSLC: the frames it receives and the commands HOST issues, one constructor for every row of the opcode table (R95). -/

namespace Sys2Proof

/-- One constructor per row of `spec/opcode_table.json`. -/
inductive Instr where
  /-- I: a recognized I-frame (R126, R150, R151). -/
  | iFrame (seq : Half) (more : Bool) (payload : List Byte)
  /-- A: a recognized A-frame (R152). -/
  | aFrame
  /-- U_START (R141). -/
  | uStart
  /-- U_START_CON (R142). -/
  | uStartCon
  /-- U_RESET (R143). -/
  | uReset
  /-- U_RESET_CON (R144). -/
  | uResetCon
  /-- U_STOP (R145). -/
  | uStop
  /-- U_STOP_CON (R146). -/
  | uStopCon
  /-- U_TEST (R147). -/
  | uTest
  /-- U_TEST_CON (R148). -/
  | uTestCon
  /-- CMD_START (R191). -/
  | cmdStart
  /-- CMD_STOP (R192). -/
  | cmdStop
  /-- CMD_BEGIN (R193). -/
  | cmdBegin
  /-- CMD_RESET (R194). -/
  | cmdReset
  /-- CMD_END (R195). -/
  | cmdEnd
  /-- CMD_SEND with the message `m` (R196). -/
  | cmdSend (m : List Byte)
  /-- CMD_REG_RX with its whole operand byte, of which only bit 0 is read (R93, R199). -/
  | cmdRegRx (operand : Byte)
  /-- CMD_REG_EVT with its whole operand byte, of which only bit 0 is read (R93, R200). -/
  | cmdRegEvt (operand : Byte)
  deriving DecidableEq, Repr

/-- Whether the instruction is a host command; the others are received frames (R95). -/
def Instr.isCommand : Instr → Bool
  | .iFrame _ _ _ | .aFrame => false
  | .uStart | .uStartCon | .uReset | .uResetCon | .uStop | .uStopCon | .uTest | .uTestCon => false
  | .cmdStart | .cmdStop | .cmdBegin | .cmdReset | .cmdEnd | .cmdSend _ | .cmdRegRx _ | .cmdRegEvt _ => true

end Sys2Proof
end

