-- ==== Sys2Proof/WellFormed.lean ====
section
/-! DEFINITION. Which parameter assignments (R6, R7, R8) and which instructions (R126) the model admits. -/

namespace Sys2Proof

/-- R7(a): SYNC and the three type marks are pairwise distinct. -/
abbrev Config.MarksDistinct (c : Config) : Prop := [c.sync, c.iMark, c.uMark, c.aMark].Nodup

/-- R7(b): the eight control codes are pairwise distinct. -/
abbrev Config.CodesDistinct (c : Config) : Prop :=
  [c.codeStart, c.codeStartCon, c.codeTest, c.codeTestCon, c.codeStop, c.codeStopCon, c.codeReset, c.codeResetCon].Nodup

/-- R7(c): 1 ≤ MAX_PAYLOAD ≤ 0x7FFF. -/
abbrev Config.TxPayloadOk (c : Config) : Prop := 1 ≤ c.maxPayload ∧ c.maxPayload ≤ 0x7FFF

/-- R7(d): RX_MAX_PAYLOAD ≤ 0x7FFF and RX_MAX_PAYLOAD ≤ REASM_CAPACITY. -/
abbrev Config.RxPayloadOk (c : Config) : Prop := c.rxMaxPayload ≤ 0x7FFF ∧ c.rxMaxPayload ≤ c.reasmCapacity

/-- R7(e): QUEUE_DEPTH ≥ 1. -/
abbrev Config.QueueOk (c : Config) : Prop := 1 ≤ c.queueDepth

/-- R7(f): T_CHAR ≤ T_IDLE. -/
abbrev Config.TimeoutsOk (c : Config) : Prop := c.tChar ≤ c.tIdle

/-- The range of P13 in R6: TICKS_PER_SECOND ≥ 1. -/
abbrev Config.TicksOk (c : Config) : Prop := 1 ≤ c.ticksPerSecond

/-- R8, D1: TIME_ALIVE and TIME_HEART are the source's seconds values times TICKS_PER_SECOND (log entry 16). -/
abbrev Config.DurationsOk (c : Config) : Prop :=
  c.timeAlive = Config.aliveSeconds * c.ticksPerSecond ∧ c.timeHeart = Config.heartSeconds * c.ticksPerSecond

/-- A well-formed parameter assignment: every clause of R7 (its clause (g) holds of every `Nat`), P13's range in R6, and R8's durations. -/
def Config.WellFormed (c : Config) : Bool :=
  decide (c.MarksDistinct ∧ c.CodesDistinct ∧ c.TxPayloadOk ∧ c.RxPayloadOk ∧ c.QueueOk ∧ c.TimeoutsOk ∧ c.TicksOk ∧ c.DurationsOk)

/-- A well-formed instruction: a received I-frame's payload is within RX_MAX_PAYLOAD (R91(b), R126). -/
def Instr.WellFormed (c : Config) : Instr → Bool
  | .iFrame _ _ payload => payload.length ≤ c.rxMaxPayload
  | .aFrame => true
  | .uStart | .uStartCon | .uReset | .uResetCon | .uStop | .uStopCon | .uTest | .uTestCon => true
  | .cmdStart | .cmdStop | .cmdBegin | .cmdReset | .cmdEnd | .cmdSend _ | .cmdRegRx _ | .cmdRegEvt _ => true

end Sys2Proof
end

