-- ==== Sys2Proof/Decode.lean ====
section
/-! DEFINITION. Byte order and checksums, the decoder of frames and host commands, and the encoder written from the same tables (R63, R80 to R95, R121 to R123). -/

namespace Sys2Proof

/-! ## Byte order and the length field -/

/-- `le16(v)`: the low byte first (R9, R63). -/
def le16 (v : Half) : List Byte := [v.extractLsb' 0 8, v.extractLsb' 8 8]

/-- `from_le16(lo, hi) = zext_16(hi) << 8 | zext_16(lo)` (R9, R63). -/
def fromLe16 (lo hi : Byte) : Half := hi.setWidth 16 <<< 8 ||| lo.setWidth 16

/-- `from_le16(F[i], F[i+1])`; a missing byte reads 0, which no complete frame has (DESIGN CHOICE, log entry 13). -/
def halfAt (F : List Byte) (i : Nat) : Half := fromLe16 (F.getD i 0#8) (F.getD (i + 1) 0#8)

/-- `more = LF[15]` (R82). -/
def moreOf (lf : Half) : Bool := lf.msb

/-- `L = LF[14:0]` (R82). -/
def lengthOf (lf : Half) : Nat := (lf.extractLsb' 0 15).toNat

/-- `LF = zext_16(more) << 15 | zext_16(L)` (R82, R197). -/
def lengthField (more : Bool) (L : Nat) : Half := (BitVec.ofBool more).setWidth 16 <<< 15 ||| BitVec.ofNat 16 L

/-! ## Checksums (P7, P8, R15) -/

/-- One bit of CRC-8/SMBUS: polynomial 0x07, most significant bit first (R15). -/
def crc8Step (c : Byte) : Byte := if c.msb then (c <<< 1) ^^^ 0x07#8 else c <<< 1

/-- `crc8_REF(b)` (R15). -/
def crc8Ref (b : Byte) : Byte := crc8Step^[8] b

/-- One bit of CRC-16/MODBUS: reflected polynomial 0xA001 (R15). -/
def crc16Step (c : Half) : Half := if c.getLsbD 0 then (c >>> 1) ^^^ 0xA001#16 else c >>> 1

/-- `crc16_REF(l)` (R15). -/
def crc16Ref (l : List Byte) : Half := l.foldl (fun c b => crc16Step^[8] (c ^^^ b.setWidth 16)) 0xFFFF#16

/-- P7 `crc8` of a parameter assignment. -/
def Config.crc8 (c : Config) (b : Byte) : Byte :=
  match c.crc8Alg with
  | .ref => crc8Ref b
  | .other n => Config.freeCrc8 n b

/-- P8 `crc16` of a parameter assignment. -/
def Config.crc16 (c : Config) (l : List Byte) : Half :=
  match c.crc16Alg with
  | .ref => crc16Ref l
  | .other n => Config.freeCrc16 n l

/-! ## Frames (without the SYNC byte) -/

/-- `Ufr(code)`: mark, code, cs8 = crc8(code), end mark (R86, R156). -/
def uFrame (c : Config) (code : Byte) : List Byte := [c.uMark, code, c.crc8 code, c.endMark]

/-- `Afr`: the A-frame, one byte (R89, R156). -/
def aFrameBytes (c : Config) : List Byte := [c.aMark]

/-- The I-frame of a sequence number, more flag and payload, with its CRC over seq and payload (R81 to R84). -/
def iFrameBytes (c : Config) (seq : Half) (more : Bool) (payload : List Byte) : List Byte :=
  [c.iMark] ++ le16 (lengthField more payload.length) ++ le16 (lengthField more payload.length) ++ [c.iMark]
    ++ le16 seq ++ payload ++ le16 (c.crc16 (le16 seq ++ payload)) ++ [c.endMark]

/-- A unit on the wire: the SYNC byte, then the frame (R80). -/
def wireUnit (c : Config) (F : List Byte) : List Byte := c.sync :: F

/-! ## The decoder -/

/-- Why bytes are no instruction. The spec's own reasons (R118, R124, R227), none recorded by any block state, and two that no complete frame or command has. -/
inductive DecodeError where
  /-- R91(a): no type byte of a frame. -/
  | badType
  /-- R91(b), R115: copy-1 L above RX_MAX_PAYLOAD. -/
  | overlength
  /-- The frame's byte count is not the one its type byte and length field give (R90); no frame the Framer completes has it (DESIGN CHOICE, log entry 13). -/
  | badLength
  /-- R91(c): the two length copies differ. -/
  | lenMismatch
  /-- R91(d): a wrong marker byte, when STRICT_MARKERS. -/
  | badMarker
  /-- R91(e): the CRC-16 does not match. -/
  | crc16
  /-- R91(e): the CRC-8 does not match. -/
  | crc8
  /-- R91(f): a U-frame's code is none of the eight. -/
  | unknownCode
  /-- R92, R227(a): a reserved command code. -/
  | reservedCommand
  /-- The operand bytes are not those of the command's row in R92 (DESIGN CHOICE, log entry 8). -/
  | badOperand
  deriving DecidableEq, Repr

/-- What the decoder answers. -/
inductive DecodeResult where
  | ok (i : Instr)
  | reject (e : DecodeError)
  deriving DecidableEq, Repr

/-- The decoded instruction, if any. -/
def DecodeResult.toOption : DecodeResult → Option Instr
  | .ok i => some i
  | .reject _ => none

/-- `validate_I(F)` (R121), with the length check of R115 and the byte count of R90. -/
def decodeI (c : Config) (F : List Byte) : DecodeResult :=
  let lf1 := halfAt F 1
  let lf2 := halfAt F 3
  let L := lengthOf lf1
  let payload := (F.drop 8).take L
  if L > c.rxMaxPayload then .reject .overlength
  else if F.length ≠ L + 11 then .reject .badLength
  else if lf1 ≠ lf2 then .reject .lenMismatch
  else if c.strictMarkers ∧ (F.getD 5 0#8 ≠ c.iMark ∨ F.getD (10 + L) 0#8 ≠ c.endMark) then .reject .badMarker
  else if c.crc16 ((F.drop 6).take (2 + L)) ≠ halfAt F (8 + L) then .reject .crc16
  else .ok (.iFrame (halfAt F 6) (moreOf lf1) payload)

/-- The U-frame instruction of a control code (R87, R149). -/
def instrOfCode (c : Config) (code : Byte) : DecodeResult :=
  if code = c.codeStart then .ok .uStart
  else if code = c.codeStartCon then .ok .uStartCon
  else if code = c.codeReset then .ok .uReset
  else if code = c.codeResetCon then .ok .uResetCon
  else if code = c.codeStop then .ok .uStop
  else if code = c.codeStopCon then .ok .uStopCon
  else if code = c.codeTest then .ok .uTest
  else if code = c.codeTestCon then .ok .uTestCon
  else .reject .unknownCode

/-- `validate_U(F)` (R122). -/
def decodeU (c : Config) (F : List Byte) : DecodeResult :=
  match F with
  | [_, code, cs8, last] =>
    if c.strictMarkers ∧ last ≠ c.endMark then .reject .badMarker
    else if c.crc8 code ≠ cs8 then .reject .crc8
    else instrOfCode c code
  | _ => .reject .badLength

/-- `validate_A(F)`: an A-frame is its type byte alone and has nothing to check (R89, R123). -/
def decodeA (F : List Byte) : DecodeResult := if F.length = 1 then .ok .aFrame else .reject .badLength

/-- A complete frame, by its type byte (R90, R95, R119). -/
def decodeFrame (c : Config) (F : List Byte) : DecodeResult :=
  match F with
  | [] => .reject .badLength
  | t :: _ =>
    if t = c.iMark then decodeI c F
    else if t = c.uMark then decodeU c F
    else if t = c.aMark then decodeA F
    else .reject .badType

/-- A host command: its code byte, then its operand bytes (R92, R93). -/
def decodeCommand (bytes : List Byte) : DecodeResult :=
  match bytes with
  | [] => .reject .reservedCommand
  | code :: operand =>
    match code.toNat, operand with
    | 0x01, [] => .ok .cmdStart
    | 0x02, [] => .ok .cmdStop
    | 0x03, [] => .ok .cmdBegin
    | 0x04, [] => .ok .cmdReset
    | 0x05, [] => .ok .cmdEnd
    | 0x06, m => .ok (.cmdSend m)
    | 0x07, [en] => .ok (.cmdRegRx en)
    | 0x08, [en] => .ok (.cmdRegEvt en)
    | n, _ => if 1 ≤ n ∧ n ≤ 8 then .reject .badOperand else .reject .reservedCommand

/-- The bytes of one instruction, with the side they come from: the serial line or HOST (R95). -/
inductive CodeUnit where
  /-- A frame, without its SYNC byte. -/
  | frame (F : List Byte)
  /-- A host command. -/
  | command (bytes : List Byte)
  deriving DecidableEq, Repr

/-- The decoder, total on any bytes. -/
def decode (c : Config) : CodeUnit → DecodeResult
  | .frame F => decodeFrame c F
  | .command bytes => decodeCommand bytes

/-! ## The encoder -/

/-- The words of an instruction, from the layouts of R81, R86, R89 and the codes of R87 and R92. -/
def encode (c : Config) : Instr → CodeUnit
  | .iFrame seq more payload => .frame (iFrameBytes c seq more payload)
  | .aFrame => .frame (aFrameBytes c)
  | .uStart => .frame (uFrame c c.codeStart)
  | .uStartCon => .frame (uFrame c c.codeStartCon)
  | .uReset => .frame (uFrame c c.codeReset)
  | .uResetCon => .frame (uFrame c c.codeResetCon)
  | .uStop => .frame (uFrame c c.codeStop)
  | .uStopCon => .frame (uFrame c c.codeStopCon)
  | .uTest => .frame (uFrame c c.codeTest)
  | .uTestCon => .frame (uFrame c c.codeTestCon)
  | .cmdStart => .command [0x01#8]
  | .cmdStop => .command [0x02#8]
  | .cmdBegin => .command [0x03#8]
  | .cmdReset => .command [0x04#8]
  | .cmdEnd => .command [0x05#8]
  | .cmdSend m => .command (0x06#8 :: m)
  | .cmdRegRx operand => .command [0x07#8, operand]
  | .cmdRegEvt operand => .command [0x08#8, operand]

/-! ## The opcode table's words (DESIGN CHOICE, log entry 6) -/

/-- The bytes of a word of `n` bytes, the first byte its least significant. -/
def wordBytes (n w : Nat) : List Byte := (List.range n).map (fun k => BitVec.ofNat 8 (w >>> (8 * k)))

/-- The unit that a one-byte word of the table stands for: a command code with zero operand bytes, a type byte, or a U-frame's code byte (R95), each completed to the unit its format requires, every free field zero. -/
def unitOfByte (c : Config) (b : Byte) : CodeUnit :=
  if 1 ≤ b.toNat ∧ b.toNat ≤ 6 then .command [b]
  else if b.toNat = 7 ∨ b.toNat = 8 then .command [b, 0#8]
  else if b = c.iMark then .frame (iFrameBytes c 0#16 false [])
  else if b = c.aMark then .frame (aFrameBytes c)
  else .frame (uFrame c b)

/-- The unit that bytes written out in full stand for: a frame when the first is a type byte, else a command. -/
def unitOfBytes (c : Config) (bytes : List Byte) : CodeUnit :=
  if bytes.head? ∈ [some c.iMark, some c.uMark, some c.aMark] then .frame bytes else .command bytes

/-- The unit of a table word of `nbits` bits. -/
def unitOfWord (c : Config) (nbits w : Nat) : CodeUnit :=
  if nbits ≤ 8 then unitOfByte c (BitVec.ofNat 8 w) else unitOfBytes c (wordBytes (nbits / 8) w)

/-- What the decoder reads from a table word, under the table's own values (REF). -/
def decodeTableWord (nbits w : Nat) : Option Instr :=
  (decode Config.ref (unitOfWord Config.ref nbits w)).toOption

end Sys2Proof
end

