-- ==== Sys2Proof/Machine/State.lean ====
section
/-! DEFINITION. Everything the spec gives LSLC as state (R21 to R37), the agents' inputs, and the state after power-on reset (R38, R250). -/

namespace Sys2Proof.Machine

/-- `phase`, the poll sequencer (R21). -/
inductive Phase where
  /-- P_BOUNDARY, between polls. -/
  | boundary
  /-- P_RX, phase 1. -/
  | rx
  /-- P_TX, phase 2. -/
  | tx
  /-- P_HB, phase 3. -/
  | hb
  /-- P_RT, phase 4. -/
  | rt
  deriving DecidableEq, Repr

/-- `link_state` (R26). -/
inductive LinkState where
  | idle
  | active
  | stopped
  | reset
  deriving DecidableEq, Repr

/-- `last_poll` (R29); its reserved value 3 has no constructor. -/
inductive LastPoll where
  | none
  | ok
  | fail
  deriving DecidableEq, Repr

/-- `fatal_cause` (R224); its reserved codes 5 to 7 have no constructor (U15). -/
inductive FatalCause where
  | none
  | seqViolation
  | probeExhausted
  | transportWrite
  | transportRead
  deriving DecidableEq, Repr

/-- Whether a queue entry holds an I-frame or a U-frame (R31). -/
inductive EntryKind where
  | ki
  | ku
  deriving DecidableEq, Repr

/-- Whether a queue entry has been transmitted (R31). -/
inductive EntryState where
  | idle
  | sent
  deriving DecidableEq, Repr

/-- One entry of the send queue, the source's Pending Message (R31); `bytes` is a frame without its SYNC byte. -/
structure Entry where
  kind : EntryKind
  bytes : List Byte
  st : EntryState
  sentTime : Nat
  deriving DecidableEq, Repr

/-- `rx_state` of the synchronizer (R34). -/
inductive RxState where
  | hunt
  | type
  | len
  | bodyI
  | bodyU
  deriving DecidableEq, Repr

/-- The connection events (R228). -/
inductive Event where
  | started
  | startConfirmed
  | reset
  | resetConfirmed
  | stopped
  | stopConfirmed
  | linkBroken
  deriving DecidableEq, Repr

/-- The answer of one `TxWrite` (R11). -/
inductive WriteAnswer where
  | ok
  | fail
  deriving DecidableEq, Repr

/-- The status of a host command (R190). -/
inductive CmdStatus where
  | ok
  | queueFull
  deriving DecidableEq, Repr

/-- Why the model faults (R226). No step answers the outcome `fault`: the spec gives a fault an effect, the sticky bit of R36, so the step that faults is a next state. -/
inductive Fault where
  /-- Recorded by the acceptance of an I-frame whose fragment would pass REASM_CAPACITY (R202). Safe: the block takes no ENGINE step after it. -/
  | reasmOverflow
  deriving DecidableEq, Repr

/-- Why a step has no next state. -/
inductive Refusal where
  /-- An instruction without a meaning yet, by its mnemonic: none is left. Safe. -/
  | notModelled (mnemonic : String)
  /-- A run under a finite TIME_W in which a time value or a deadline sum overflows: raised by `step` (U6). Safe: the spec gives no wrap rule and asks for the refusal. -/
  | timeOverflow
  /-- A parameter assignment that is not well-formed: raised by `State.construct` (R227(b), U17). Safe: no initial state exists. -/
  | illFormedParameters
  deriving DecidableEq, Repr

/-- The whole state of LSLC, with its parameters and the inputs its agents draw. -/
structure State where
  /-- The parameter assignment P1 to P20, which no step changes (R6, R37; DESIGN CHOICE, log entry 1). -/
  cfg : Config
  /-- `now`, the CLOCK's time (R8, R37). -/
  now : Nat
  /-- The agents' moves to come, the next first (R3, R178; DESIGN CHOICE, log entry 3). -/
  sched : List Action
  /-- How many free moves were drawn after the listed ones ran out (the model's own; DESIGN CHOICE, log entry 3). -/
  turn : Nat
  /-- The TRANSPORT's answer to this ENGINE step's read (R37). -/
  rxDraw : ReadAnswer
  /-- The TRANSPORT's answer to this ENGINE step's write (R37). -/
  txDraw : WriteResult
  /-- R21. -/
  phase : Phase
  /-- R22. -/
  sendSeq : Half
  /-- R23. -/
  recvSeq : Half
  /-- R24. -/
  probeCount : Nat
  /-- R25. -/
  hbDeadline : Nat
  /-- R26. -/
  linkState : LinkState
  /-- R27. -/
  running : Bool
  /-- R28. -/
  stopReq : Bool
  /-- The CMD_STOPs issued and not yet complete, whose HOST threads wait (R192; DEDUCED, log entry 5). -/
  stopWaiting : Nat
  /-- R29. -/
  lastPoll : LastPoll
  /-- R29. -/
  fatalCause : FatalCause
  /-- R30. -/
  rxCbEn : Bool
  /-- R30. -/
  evtCbEn : Bool
  /-- `Q`, the head first (R31). -/
  q : List Entry
  /-- `RB` (R33). -/
  rb : List Byte
  /-- R34(a). -/
  rxState : RxState
  /-- R34(b). -/
  rxBuf : List Byte
  /-- R34(c). -/
  rxNeed : Nat
  /-- R35(a): each write with its answer. -/
  txLog : List (List Byte × WriteAnswer)
  /-- R35(b). -/
  evLog : List Event
  /-- R35(c). -/
  msgLog : List (List Byte)
  /-- R35(d): each command, whole operand included, with its status (DESIGN CHOICE, log entry 12). -/
  cmdLog : List (Instr × CmdStatus)
  /-- R36. -/
  fault : Bool
  /-- R36, R226. -/
  faultReason : Option Fault
  /-- R36. -/
  refused : Bool
  deriving DecidableEq, Repr

/-- What a step of LSLC answers. -/
abbrev Outcome := Host.Outcome State Fault Refusal

/-- The state after power-on reset under a parameter assignment, at a time of the CLOCK, with the agents' moves to come (R38, R250). The two draws are overwritten before they are read (DESIGN CHOICE, log entry 4). -/
def State.resetWith (c : Config) (now : Nat) (sched : List Action) : State where
  cfg := c
  now := now
  sched := sched
  turn := 0
  rxDraw := .timeout
  txDraw := .failure
  phase := .boundary
  sendSeq := 0x0001#16
  recvSeq := 0x0000#16
  probeCount := 0
  hbDeadline := 0
  linkState := .idle
  running := false
  stopReq := false
  stopWaiting := 0
  lastPoll := .none
  fatalCause := .none
  rxCbEn := false
  evtCbEn := false
  q := []
  rb := []
  rxState := .hunt
  rxBuf := []
  rxNeed := 0
  txLog := []
  evLog := []
  msgLog := []
  cmdLog := []
  fault := false
  faultReason := none
  refused := false

/-- Power-on reset under REF, at time 0, with no move listed (R38; DESIGN CHOICE, log entries 1 and 4). -/
def State.reset : State := State.resetWith Config.ref 0 []

/-- Constructing the block: a parameter assignment that is not well-formed gives no initial state (R7, R227(b), R252 step 1). -/
def State.construct (c : Config) (now : Nat) (sched : List Action) : Outcome :=
  if c.WellFormed then .next (State.resetWith c now sched) else .refused .illFormedParameters

end Sys2Proof.Machine
end

