-- ==== Sys2Proof/Machine/Ops.lean ====
section
/-! DEFINITION. The operations every rule shares: transport writes, outputs, the liveness prefix, the fatal reset, the model fault, and the queue operations. -/

namespace Sys2Proof.Machine

/-! ## Outputs -/

/-- `Emit(ev)`: appended to `ev_log` when the event callback is registered, else lost (R228, R229). -/
def emit (ev : Event) (s : State) : State :=
  { s with evLog := if s.evtCbEn then s.evLog ++ [ev] else s.evLog }

/-- `Deliver(m)`: appended to `msg_log` when the receive callback is registered, else lost (R203). -/
def deliver (m : List Byte) (s : State) : State :=
  { s with msgLog := if s.rxCbEn then s.msgLog ++ [m] else s.msgLog }

/-- Appends a completed command with its status to `cmd_log` (R190). -/
def logCmd (i : Instr) (st : CmdStatus) (s : State) : State :=
  { s with cmdLog := s.cmdLog ++ [(i, st)] }

/-! ## The fatal reset, LSLC's exception entry -/

/-- `raise Fatal(cause)`: the fatal reset (R223). It ends the step and the poll. There is no return from it: nothing has to be acknowledged, and the next poll starts like any other (R234). -/
def fatalReset (cause : FatalCause) (s : State) : State :=
  emit .linkBroken
    { s with
      sendSeq := 0x0001#16
      recvSeq := 0x0000#16
      q := []
      rb := []
      probeCount := 0
      hbDeadline := s.now + s.cfg.timeHeart
      rxBuf := []
      rxNeed := 0
      rxState := .hunt
      linkState := .reset
      fatalCause := cause
      lastPoll := .fail
      phase := .boundary }

/-- `fault(reason)`: the sticky mark of R226, and nothing else. -/
def raiseFault (reason : Fault) (s : State) : State :=
  { s with fault := true, faultReason := some reason }

/-- A refused host command sets `refused` and nothing else (R227). -/
def refuseCommand (s : State) : State := { s with refused := true }

/-! ## Transport writes -/

/-- `TxWrite(l)`: OK exactly when the transport's count is the whole length; a smaller count or a failure is FAIL (R11, R230). -/
def txWrite (l : List Byte) (s : State) : WriteAnswer :=
  match s.txDraw with
  | .count n => if n = l.length then .ok else .fail
  | .failure => .fail

/-- The part of `SendFrame(F)` that writes state: the whole unit and its answer go to `tx_log` (R66, R110). -/
def logTx (F : List Byte) (s : State) : State :=
  { s with txLog := s.txLog ++ [(wireUnit s.cfg F, txWrite (wireUnit s.cfg F) s)] }

/-- `if SendFrame(F) == FAIL then raise Fatal(TRANSPORT_WRITE)`, then the rest of the rule (R110, R156). -/
def sendThen (F : List Byte) (rest : State → State) (s : State) : State :=
  match txWrite (wireUnit s.cfg F) s with
  | .ok => rest (logTx F s)
  | .fail => fatalReset .transportWrite (logTx F s)

/-! ## Dispatch of a recognized frame -/

/-- The liveness prefix of every recognized frame (R140). -/
def recognized (s : State) : State :=
  { s with hbDeadline := s.now + s.cfg.timeHeart, probeCount := 0 }

/-- The end of a dispatch step without a fatal condition (R154). -/
def endDispatch (s : State) : State := { s with phase := .tx }

/-! ## The send queue and the reassembly buffer -/

/-- `matches(act)`: the head is a Sent U-frame entry of that act code (R153). -/
def headConfirmedBy (act : Byte) (s : State) : Bool :=
  match s.q with
  | [] => false
  | h :: _ => h.kind = .ku ∧ h.st = .sent ∧ h.bytes[1]? = some act

/-- The head is a Sent I-frame entry (R152). -/
def headIsSentI (s : State) : Bool :=
  match s.q with
  | [] => false
  | h :: _ => h.kind = .ki ∧ h.st = .sent

/-- `Q.pop()` (R10). -/
def popHead (s : State) : State := { s with q := s.q.tail }

/-- `Q <- []; RB <- []`, the completion of CMD_STOP (R171, R192, R204(d)). -/
def clearBuffers (s : State) : State := { s with q := [], rb := [] }

/-- Pushes entries at the tail as one block if they fit, with the command's status logged (R67, R190, R193 to R196). -/
def pushAll (i : Instr) (es : List Entry) (s : State) : State :=
  if s.q.length + es.length > s.cfg.queueDepth then logCmd i .queueFull s
  else logCmd i .ok { s with q := s.q ++ es }

/-- The part of `OnFragment` after its capacity check: append, and deliver and clear when no more follow (R201). -/
def onFragment (chunk : List Byte) (more : Bool) (s : State) : State :=
  if more then { s with rb := s.rb ++ chunk }
  else { deliver (s.rb ++ chunk) s with rb := [] }

/-- R202: whether appending the fragment would pass REASM_CAPACITY. -/
def fragmentOverflows (chunk : List Byte) (s : State) : Bool :=
  s.rb.length + chunk.length > s.cfg.reasmCapacity

end Sys2Proof.Machine
end

