-- ==== Sys2Proof/Machine/Operands.lean ====
section
/-! DEFINITION. The operand forms: command operands, the entries built from them, and the fields filled at first transmission (R93, R173, R196 to R198). -/

namespace Sys2Proof.Machine

/-- `en`: bit 0 of the operand byte; bits [7:1] are ignored (R93, U13). -/
def enableBit (operand : Byte) : Bool := operand.getLsbD 0

/-- `PrepareIFrame(chunk, more)`: the seq and CRC bytes are zero placeholders (R83, R197). -/
def prepareIFrame (c : Config) (chunk : List Byte) (more : Bool) : Entry where
  kind := .ki
  bytes := [c.iMark] ++ le16 (lengthField more chunk.length) ++ le16 (lengthField more chunk.length) ++ [c.iMark]
    ++ [0#8, 0#8] ++ chunk ++ [0#8, 0#8] ++ [c.endMark]
  st := .idle
  sentTime := 0

/-- `PrepareUFrame(code)` (R198). -/
def prepareUFrame (c : Config) (code : Byte) : Entry where
  kind := .ku
  bytes := uFrame c code
  st := .idle
  sentTime := 0

/-- The fragment count `k`: the ceiling of n / M (R196, R205). -/
def fragmentCount (c : Config) (m : List Byte) : Nat := (m.length + c.maxPayload - 1) / c.maxPayload

/-- `chunk i = m[i*M .. min((i+1)*M, n))` (R196). -/
def chunkAt (c : Config) (m : List Byte) (i : Nat) : List Byte := (m.drop (i * c.maxPayload)).take c.maxPayload

/-- The entries of CMD_SEND, every one but the last with the more flag (R196, R205). -/
def fragmentEntries (c : Config) (m : List Byte) : List Entry :=
  (List.range (fragmentCount c m)).map fun i => prepareIFrame c (chunkAt c m i) (i < fragmentCount c m - 1)

/-- `F[i .. i + len(v)) <- v`. -/
def patch (F : List Byte) (i : Nat) (v : List Byte) : List Byte := F.take i ++ v ++ F.drop (i + v.length)

/-- The bytes of an I-frame entry with its seq field, then its CRC-16 field, filled in (R173). -/
def fillSeqCrc (c : Config) (seq : Half) (F : List Byte) : List Byte :=
  let L := F.length - 11
  let F := patch F 6 (le16 seq)
  patch F (8 + L) (le16 (c.crc16 ((F.drop 6).take (2 + L))))

/-- The bytes an Idle head is transmitted with: an I-frame filled in, a U-frame as stored (R173, R174). -/
def bytesToSend (c : Config) (seq : Half) (e : Entry) : List Byte :=
  match e.kind with
  | .ki => fillSeqCrc c seq e.bytes
  | .ku => e.bytes

end Sys2Proof.Machine
end

