-- ==== Sys2Proof/Machine/Commands.lean ====
section
/-! DEFINITION. The effects of the eight host commands (R190 to R200). -/

namespace Sys2Proof.Machine

/-- CMD_START: idempotent (R191). -/
def execCmdStart (s : State) : Outcome :=
  .next (logCmd .cmdStart .ok
    (if s.running then s
     else { s with running := true, hbDeadline := s.now + s.cfg.timeHeart, probeCount := 0 }))

/-- CMD_STOP: at once when not running; else requested, and its thread waits for the boundary step (R192). -/
def execCmdStop (s : State) : Outcome :=
  .next (if s.running then { s with stopReq := true, stopWaiting := s.stopWaiting + 1 }
    else logCmd .cmdStop .ok (clearBuffers s))

/-- CMD_BEGIN: queues a START (R193). -/
def execCmdBegin (s : State) : Outcome :=
  .next (pushAll .cmdBegin [prepareUFrame s.cfg s.cfg.codeStart] s)

/-- CMD_RESET: queues a RESET (R194). -/
def execCmdReset (s : State) : Outcome :=
  .next (pushAll .cmdReset [prepareUFrame s.cfg s.cfg.codeReset] s)

/-- CMD_END: queues a STOP (R195). -/
def execCmdEnd (s : State) : Outcome :=
  .next (pushAll .cmdEnd [prepareUFrame s.cfg s.cfg.codeStop] s)

/-- CMD_SEND: queues the fragments of `m`, all or none (R196). -/
def execCmdSend (m : List Byte) (s : State) : Outcome :=
  .next (pushAll (.cmdSend m) (fragmentEntries s.cfg m) s)

/-- CMD_REG_RX (R199). -/
def execCmdRegRx (operand : Byte) (s : State) : Outcome :=
  .next (logCmd (.cmdRegRx operand) .ok { s with rxCbEn := enableBit operand })

/-- CMD_REG_EVT (R200). -/
def execCmdRegEvt (operand : Byte) (s : State) : Outcome :=
  .next (logCmd (.cmdRegEvt operand) .ok { s with evtCbEn := enableBit operand })

end Sys2Proof.Machine
end

