-- ==== Sys2Proof/Machine/IAFrames.lean ====
section
/-! DEFINITION. The effects of the I-frame and the A-frame (R150 to R152, R201, R202). -/

namespace Sys2Proof.Machine

/-- An I-frame with the expected sequence number: the fragment is taken, `recv_seq` advances, and the A-frame is sent (R150). -/
def acceptI (seq : Half) (more : Bool) (payload : List Byte) (s : State) : State :=
  sendThen (aFrameBytes s.cfg) endDispatch { onFragment payload more (recognized s) with recvSeq := seq }

/-- I: accepted when its number is exactly one above `recv_seq` modulo 2^16 (R150); any other is a sequence violation (R151); one that would overflow the reassembly buffer faults and writes nothing else (R202). -/
def execIFrame (seq : Half) (more : Bool) (payload : List Byte) (s : State) : Outcome :=
  if seq = s.recvSeq + 1#16 then
    if fragmentOverflows payload s then .next (raiseFault .reasmOverflow s)
    else .next (acceptI seq more payload s)
  else .next (fatalReset .seqViolation (recognized s))

/-- A: acknowledges the Sent I-frame at the head, if there is one (R152). -/
def execAFrame (s : State) : Outcome :=
  .next (endDispatch
    (if headIsSentI s then { popHead (recognized s) with sendSeq := s.sendSeq + 1#16 } else recognized s))

end Sys2Proof.Machine
end

