-- ==== Sys2Proof/Machine/UFrames.lean ====
section
/-! DEFINITION. The effects of the eight U-frames (R141 to R148). -/

namespace Sys2Proof.Machine

/-- The shape of the four act frames: the liveness prefix, the confirm sent at once, then the rest of the rule (R154, R156). -/
def replyThen (confirm : Byte) (rest : State → State) (s : State) : State :=
  sendThen (uFrame s.cfg confirm) (fun t => endDispatch (rest t)) (recognized s)

/-- The shape of the four confirm frames: the liveness prefix, then the rest of the rule if the head is the partner act, popped (R153, R154). -/
def confirmThen (act : Byte) (rest : State → State) (s : State) : State :=
  endDispatch (if headConfirmedBy act s then rest (popHead (recognized s)) else recognized s)

/-- U(START), a received START (R141). -/
def execUStart (s : State) : Outcome :=
  .next (replyThen s.cfg.codeStartCon (fun t => { emit .started t with linkState := .active }) s)

/-- U(START-CONFIRM) (R142). -/
def execUStartCon (s : State) : Outcome :=
  .next (confirmThen s.cfg.codeStart (fun t => { emit .startConfirmed t with linkState := .active }) s)

/-- U(RESET), a received RESET (R143). -/
def execUReset (s : State) : Outcome :=
  .next (replyThen s.cfg.codeResetCon (fun t => emit .reset { t with recvSeq := 0x0000#16, rb := [] }) s)

/-- U(RESET-CONFIRM) (R144). -/
def execUResetCon (s : State) : Outcome :=
  .next (confirmThen s.cfg.codeReset (fun t => emit .resetConfirmed { t with sendSeq := 0x0001#16 }) s)

/-- U(STOP), a received STOP (R145). -/
def execUStop (s : State) : Outcome :=
  .next (replyThen s.cfg.codeStopCon (fun t => { emit .stopped t with linkState := .stopped }) s)

/-- U(STOP-CONFIRM) (R146). -/
def execUStopCon (s : State) : Outcome :=
  .next (confirmThen s.cfg.codeStop (fun t => { emit .stopConfirmed t with linkState := .stopped }) s)

/-- U(TEST), a received liveness probe (R147). -/
def execUTest (s : State) : Outcome :=
  .next (replyThen s.cfg.codeTestCon (fun t => t) s)

/-- U(TEST-CONFIRM): clears the probe counter, which the prefix also does; the match is never true of a queue that commands fill (R148). -/
def execUTestCon (s : State) : Outcome :=
  let t := { recognized s with probeCount := 0 }
  .next (endDispatch (if headConfirmedBy s.cfg.codeTest s then popHead t else t))

end Sys2Proof.Machine
end

