-- ==== Sys2Proof/Machine/Dispatch.lean ====
section
/-! DEFINITION. One arm per instruction: the effect of a recognized frame at dispatch, or of a host command (R95, R149, R154, R190). -/

namespace Sys2Proof.Machine

def exec (i : Instr) (s : State) : Host.Outcome State Fault Refusal :=
  match i with
  | .iFrame seq more payload => Sys2Proof.Machine.execIFrame seq more payload s
  | .aFrame => Sys2Proof.Machine.execAFrame s
  | .uStart => Sys2Proof.Machine.execUStart s
  | .uStartCon => Sys2Proof.Machine.execUStartCon s
  | .uReset => Sys2Proof.Machine.execUReset s
  | .uResetCon => Sys2Proof.Machine.execUResetCon s
  | .uStop => Sys2Proof.Machine.execUStop s
  | .uStopCon => Sys2Proof.Machine.execUStopCon s
  | .uTest => Sys2Proof.Machine.execUTest s
  | .uTestCon => Sys2Proof.Machine.execUTestCon s
  | .cmdStart => Sys2Proof.Machine.execCmdStart s
  | .cmdStop => Sys2Proof.Machine.execCmdStop s
  | .cmdBegin => Sys2Proof.Machine.execCmdBegin s
  | .cmdReset => Sys2Proof.Machine.execCmdReset s
  | .cmdEnd => Sys2Proof.Machine.execCmdEnd s
  | .cmdSend m => Sys2Proof.Machine.execCmdSend m s
  | .cmdRegRx operand => Sys2Proof.Machine.execCmdRegRx operand s
  | .cmdRegEvt operand => Sys2Proof.Machine.execCmdRegEvt operand s

end Sys2Proof.Machine
end

