-- ==== Sys2Proof/Machine/Framer.lean ====
section
/-! DEFINITION. The Framer: the synchronizer's steps of phase 1, and the hand-off of a complete frame to validation and dispatch (R112 to R129). -/

namespace Sys2Proof.Machine

/-- The timeout class of a read (R11, R112). -/
inductive ReadClass where
  /-- Message-idle. -/
  | idle
  /-- Inter-character. -/
  | char
  deriving DecidableEq, Repr

/-- The class of the read in each synchronizer state (R112, D33). -/
def readClass : RxState → ReadClass
  | .hunt => .idle
  | .type | .len | .bodyI | .bodyU => .char

/-- The milliseconds LSLC gives `SetTimeout` before a read (R230); the TRANSPORT's, never compared with `now` (R112, R261). -/
def readTimeout (s : State) : Nat :=
  match readClass s.rxState with
  | .idle => s.cfg.tIdle
  | .char => s.cfg.tChar

/-- The synchronizer back in HUNT with nothing read: R118's `discard`, whatever its reason, which no state records. -/
def discardPartial (s : State) : State := { s with rxBuf := [], rxNeed := 0, rxState := .hunt }

/-- `drop`, whatever its reason, which no state records (R124). -/
def dropFrame (s : State) : State := { s with phase := .tx }

/-- A step that faults writes `fault` and `fault_reason` and nothing else, whatever it did before it faulted (R202, R226; DEDUCED, log entry 9). -/
def keepOnlyFault (before : State) (o : Outcome) : Outcome :=
  match o with
  | .next t => if t.fault then .next { before with fault := true, faultReason := t.faultReason } else .next t
  | .fault r => .fault r
  | .refused r => .refused r

/-- `complete(F)`: the synchronizer is cleared and the frame goes to validation and, recognized, to dispatch, all in this step (R119, R121 to R124). -/
def complete (F : List Byte) (s : State) : Outcome :=
  match decodeFrame s.cfg F with
  | .ok i => keepOnlyFault s (exec i (discardPartial s))
  | .reject _ => .next (dropFrame (discardPartial s))

/-- HUNT (R113). -/
def huntByte (b : Byte) (s : State) : State :=
  if b = s.cfg.sync then { s with rxBuf := [], rxState := .type } else s

/-- TYPE (R114). -/
def typeByte (b : Byte) (s : State) : Outcome :=
  if b = s.cfg.iMark then .next { s with rxBuf := [b], rxNeed := 2, rxState := .len }
  else if b = s.cfg.uMark then .next { s with rxBuf := [b], rxNeed := 3, rxState := .bodyU }
  else if b = s.cfg.aMark then complete [b] s
  else .next (discardPartial s)

/-- LEN: the first length copy, which alone sets the read length (R115). -/
def lenByte (b : Byte) (s : State) : State :=
  let t := { s with rxBuf := s.rxBuf ++ [b], rxNeed := s.rxNeed - 1 }
  if t.rxNeed = 0 then
    if lengthOf (halfAt t.rxBuf 1) > t.cfg.rxMaxPayload then discardPartial t
    else { t with rxNeed := lengthOf (halfAt t.rxBuf 1) + 8, rxState := .bodyI }
  else t

/-- BODY_I and BODY_U: every byte value is data (R116, R117). -/
def bodyByte (b : Byte) (s : State) : Outcome :=
  if s.rxNeed - 1 = 0 then complete (s.rxBuf ++ [b]) s
  else .next { s with rxBuf := s.rxBuf ++ [b], rxNeed := s.rxNeed - 1 }

/-- A read that answers a byte, in each synchronizer state. -/
def framerByte (b : Byte) (s : State) : Outcome :=
  match s.rxState with
  | .hunt => .next (huntByte b s)
  | .type => typeByte b s
  | .len => .next (lenByte b s)
  | .bodyI => bodyByte b s
  | .bodyU => bodyByte b s

/-- A read that times out: the end of phase 1 in HUNT, a framing error anywhere else (R113 to R117, R128). -/
def framerTimeout (s : State) : State :=
  match s.rxState with
  | .hunt => { s with phase := .tx }
  | .type | .len | .bodyI | .bodyU => discardPartial s

/-- One Framer step: one read and the update for the current synchronizer state (R112). -/
def framerStep (s : State) : Outcome :=
  match s.rxDraw with
  | .byte b => framerByte b s
  | .timeout => .next (framerTimeout s)
  | .error => .next (fatalReset .transportRead s)

end Sys2Proof.Machine
end

