-- ==== Sys2Proof/Machine/Poll.lean ====
section
/-! DEFINITION. The poll sequencer and the agents' moves: the boundary, transmit, heartbeat and retransmit steps (R170 to R181), HOST commands and the CLOCK (R178). -/

namespace Sys2Proof.Machine

/-- The head entry rewritten in place (R31, R67). -/
def setHead (h : Entry) (s : State) : State := { s with q := h :: s.q.tail }

/-- The boundary step: a requested stop completes, with the status of every waiting CMD_STOP; else the poll begins (R171, R192). -/
def boundaryStep (s : State) : State :=
  if s.stopReq then
    { clearBuffers s with
      running := false
      stopReq := false
      stopWaiting := 0
      cmdLog := s.cmdLog ++ List.replicate s.stopWaiting (Instr.cmdStop, CmdStatus.ok) }
  else { s with phase := .rx, rxState := .hunt }

/-- Phase 2: an Idle head is filled in, sent, marked Sent and stamped (R173). -/
def txStep (s : State) : State :=
  match s.q with
  | [] => { s with phase := .hb }
  | h :: _ =>
    match h.st with
    | .sent => { s with phase := .hb }
    | .idle =>
      let F := bytesToSend s.cfg s.sendSeq h
      sendThen F (fun t => { setHead { h with bytes := F, st := .sent, sentTime := t.now } t with phase := .hb }) s

/-- Phase 3: the heartbeat arbiter (R175, R180). -/
def hbStep (s : State) : State :=
  if s.now > s.hbDeadline then
    if s.probeCount > s.cfg.probeLimit then fatalReset .probeExhausted s
    else sendThen (uFrame s.cfg s.cfg.codeTest)
      (fun t => { t with probeCount := t.probeCount + 1, hbDeadline := t.now + t.cfg.timeHeart, phase := .rt }) s
  else { s with phase := .rt }

/-- `end_of_poll()` (R177). -/
def endOfPoll (s : State) : State := { s with lastPoll := .ok, phase := .boundary }

/-- Whether a queue entry's deadline has passed: strictly (R176, R180). -/
def retransmitDue (s : State) (h : Entry) : Bool :=
  h.st = .sent ∧ s.now - h.sentTime > s.cfg.timeAlive

/-- Phase 4: a Sent head past its deadline is sent again, unchanged (R174, R176). -/
def rtStep (s : State) : State :=
  match s.q with
  | [] => endOfPoll s
  | h :: _ =>
    if retransmitDue s h then sendThen h.bytes (fun t => endOfPoll (setHead { h with sentTime := t.now } t)) s
    else endOfPoll s

/-- R181: exactly when the ENGINE has an enabled step. -/
def engineEnabled (s : State) : Bool := s.running ∧ ¬ s.fault

/-- One step of an enabled ENGINE, by its phase (R170). -/
def engineStep (s : State) : Outcome :=
  match s.phase with
  | .boundary => .next (boundaryStep s)
  | .rx => framerStep s
  | .tx => .next (txStep s)
  | .hb => .next (hbStep s)
  | .rt => .next (rtStep s)

/-- A HOST step: the command of these bytes, refused when it is outside the admitted forms (R190, R227; log entry 8 for a wrong operand). -/
def hostStep (bytes : List Byte) (s : State) : Outcome :=
  match decodeCommand bytes with
  | .ok i => exec i s
  | .reject _ => .next (refuseCommand s)

/-- One move of an agent. An ENGINE that has no enabled step does nothing (R181, U19; DEDUCED, log entry 10). -/
def act (a : Action) (s : State) : Outcome :=
  match a with
  | .host bytes => hostStep bytes s
  | .engine read write =>
    if engineEnabled s then engineStep { s with rxDraw := read, txDraw := write } else .next s
  | .clock ticks => .next { s with now := s.now + ticks }

/-- The next move: the first listed one, or a free one when none is listed (R3, R178; DESIGN CHOICE, log entry 3). -/
def nextAction (s : State) : Action :=
  match s.sched with
  | [] => Config.freeAction s.turn
  | a :: _ => a

/-- The state once the next move is drawn. -/
def afterDraw (s : State) : State :=
  match s.sched with
  | [] => { s with turn := s.turn + 1 }
  | _ :: rest => { s with sched := rest }

/-- Whether a time value fits a width. -/
def fitsWidth (w : Option Nat) (t : Nat) : Bool :=
  match w with
  | none => true
  | some n => t < 2 ^ n

/-- Whether every time value and deadline sum of the state fits TIME_W (R8, R180, U6). -/
def timesFit (s : State) : Bool :=
  fitsWidth s.cfg.timeW s.now && fitsWidth s.cfg.timeW s.hbDeadline
    && s.q.all fun e => e.st = .idle || fitsWidth s.cfg.timeW (e.sentTime + s.cfg.timeAlive)

/-- A run in which a time value or a deadline sum overflows a finite TIME_W is refused (U6; DEDUCED, log entry 7). -/
def withinTime (o : Outcome) : Outcome :=
  match o with
  | .next t => if timesFit t then .next t else .refused .timeOverflow
  | .fault r => .fault r
  | .refused r => .refused r

/-! ## Placing an instruction where the next step runs it (DESIGN CHOICE, log entry 6) -/

/-- The frame's reception brought to its last byte, which the next ENGINE step reads, with a write answer that is whole for its reply (R114, R119). -/
def awaitLastByte (F : List Byte) (s : State) : State :=
  { s with
    running := true
    fault := false
    faultReason := none
    phase := .rx
    rxState := if F.length ≤ 1 then .type else if F.head? = some s.cfg.uMark then .bodyU else .bodyI
    rxBuf := F.dropLast
    rxNeed := if F.length ≤ 1 then 0 else 1
    sched := .engine (.byte (F.getLastD 0#8)) (.count (if F.head? = some s.cfg.uMark then 5 else 2)) :: s.sched }

/-- The unit placed where the next step takes it. -/
def placeUnit (u : CodeUnit) (s : State) : State :=
  match u with
  | .command bytes => { s with sched := .host bytes :: s.sched }
  | .frame F => awaitLastByte F s

end Sys2Proof.Machine
end

