-- ==== Sys2Proof/Machine/Step.lean ====
section
/-! DEFINITION. One step of the machine: the next move of an agent (R3, R178). -/

namespace Sys2Proof.Machine

/-- One step. -/
def step (s : State) : Host.Outcome State Fault Refusal := withinTime (act (nextAction s) (afterDraw s))

/-- The state in which the next step runs the instruction of a table word (DESIGN CHOICE, log entry 6). -/
def State.withFetchWord (s : State) (nbits w : Nat) : State := placeUnit (unitOfWord s.cfg nbits w) s

end Sys2Proof.Machine
end

