-- ==== Sys2Proof/Machine/Flags.lean ====
section
/-! DEFINITION. The status word, the codes of its fields, and the registers HOST may read (R26, R29, R39, R40, R224, R228). -/

namespace Sys2Proof.Machine

/-- The 2-bit code of `link_state` (R26). -/
def linkStateCode : LinkState → BitVec 2
  | .idle => 0
  | .active => 1
  | .stopped => 2
  | .reset => 3

/-- The 2-bit code of `last_poll` (R29). -/
def lastPollCode : LastPoll → BitVec 2
  | .none => 0
  | .ok => 1
  | .fail => 2

/-- The 3-bit code of `fatal_cause` (R224). -/
def fatalCauseCode : FatalCause → BitVec 3
  | .none => 0
  | .seqViolation => 1
  | .probeExhausted => 2
  | .transportWrite => 3
  | .transportRead => 4

/-- The code of a connection event (R228). -/
def eventCode : Event → Nat
  | .started => 0
  | .startConfirmed => 1
  | .reset => 2
  | .resetConfirmed => 3
  | .stopped => 4
  | .stopConfirmed => 5
  | .linkBroken => 6

/-- The bit of an entry's `st` (R31). -/
def entryStateCode : EntryState → BitVec 1
  | .idle => 0
  | .sent => 1

/-- `STATUS`: each field at its bit position, bits [15:13] zero (R39, U14). -/
def statusWord (s : State) : Half :=
  (linkStateCode s.linkState).setWidth 16 ||| (BitVec.ofBool s.running).setWidth 16 <<< 2
    ||| (BitVec.ofBool s.stopReq).setWidth 16 <<< 3 ||| (lastPollCode s.lastPoll).setWidth 16 <<< 4
    ||| (fatalCauseCode s.fatalCause).setWidth 16 <<< 6 ||| (BitVec.ofBool s.fault).setWidth 16 <<< 9
    ||| (BitVec.ofBool s.refused).setWidth 16 <<< 10 ||| (BitVec.ofBool s.rxCbEn).setWidth 16 <<< 11
    ||| (BitVec.ofBool s.evtCbEn).setWidth 16 <<< 12

/-- What HOST may read (R39). -/
inductive HostReg where
  | status
  | sendSeq
  | recvSeq
  | probeCount
  | lenQ
  | lenRB
  deriving DecidableEq, Repr

/-- A HOST read: the 16-bit value, and no side effect (R39, R69; log entry 14 for a count of more than 16 bits). -/
def hostRead (r : HostReg) (s : State) : Half :=
  match r with
  | .status => statusWord s
  | .sendSeq => s.sendSeq
  | .recvSeq => s.recvSeq
  | .probeCount => BitVec.ofNat 16 s.probeCount
  | .lenQ => BitVec.ofNat 16 s.q.length
  | .lenRB => BitVec.ofNat 16 s.rb.length

end Sys2Proof.Machine
end

