-- ==== Sys2Proof/Safety.lean ====
section
/-! DEFINITION. What claims are stated in: the invariants of the state, well-formed queued frames, good states, and runs of instructions. -/

namespace Sys2Proof.Machine

/-- A good state: neither model mark is set. Every claim about a run takes it as a premise (R226, R227). -/
def State.Good (s : State) : Prop := s.fault = false ∧ s.refused = false

/-- The synchronizer's three parts agree (R34): what `rx_buf` holds and what `rx_need` still counts in each `rx_state`. -/
def State.RxConsistent (s : State) : Prop :=
  match s.rxState with
  | .hunt | .type => s.rxBuf = [] ∧ s.rxNeed = 0
  | .len => 1 ≤ s.rxNeed ∧ s.rxBuf.length + s.rxNeed = 3 ∧ s.rxBuf.head? = some s.cfg.iMark
  | .bodyI =>
    1 ≤ s.rxNeed ∧ 3 ≤ s.rxBuf.length ∧ s.rxBuf.head? = some s.cfg.iMark ∧
      s.rxBuf.length + s.rxNeed = lengthOf (halfAt s.rxBuf 1) + 11 ∧
      lengthOf (halfAt s.rxBuf 1) ≤ s.cfg.rxMaxPayload
  | .bodyU => 1 ≤ s.rxNeed ∧ s.rxBuf.length + s.rxNeed = 4 ∧ s.rxBuf.head? = some s.cfg.uMark

/-- What every step keeps. -/
structure State.Inv (s : State) : Prop where
  /-- R7: the parameters are well-formed. -/
  cfgWellFormed : s.cfg.WellFormed = true
  /-- R32, R179(a): every entry behind the head is Idle, so at most the head is Sent. -/
  onlyHeadSent : ∀ e ∈ s.q.tail, e.st = .idle
  /-- R31: at most QUEUE_DEPTH entries. -/
  queueBounded : s.q.length ≤ s.cfg.queueDepth
  /-- R33: at most REASM_CAPACITY bytes. -/
  rbBounded : s.rb.length ≤ s.cfg.reasmCapacity
  /-- R34. -/
  rxConsistent : s.RxConsistent
  /-- R34, R128: outside phase 1 the synchronizer is in HUNT. -/
  huntOutsideRx : s.phase ≠ .rx → s.rxState = .hunt
  /-- R24: `probe_count` never passes PROBE_LIMIT + 1 = 3. -/
  probesBounded : s.probeCount ≤ 3
  /-- R181: a stopped block is at the poll boundary. -/
  stoppedAtBoundary : s.running = false → s.phase = .boundary
  /-- R28, R192: `stop_req` is set exactly while a CMD_STOP waits, which only happens while running. -/
  stopWaits : (s.stopReq = true ↔ 0 < s.stopWaiting) ∧ (s.stopReq = true → s.running = true)
  /-- R8, R25: the heartbeat deadline is at most TIME_HEART ahead. -/
  deadlineNear : s.hbDeadline ≤ s.now + s.cfg.timeHeart
  /-- R8, R173, R176: no entry is stamped with a time to come. -/
  stampsPast : ∀ e ∈ s.q, e.sentTime ≤ s.now
  /-- R36, R226: a reason is recorded exactly with the fault. -/
  faultRecorded : s.fault = s.faultReason.isSome

/-- A queued entry as its kind and state give its bytes (R31, R83, R173, R174, R197, R198): a U-frame of an act code HOST can queue; an Idle I-frame with placeholders; a Sent I-frame complete and numbered `send_seq`. -/
def Entry.FrameOk (c : Config) (sendSeq : Half) (e : Entry) : Prop :=
  match e.kind, e.st with
  | .ku, _ => e.bytes = uFrame c c.codeStart ∨ e.bytes = uFrame c c.codeReset ∨ e.bytes = uFrame c c.codeStop
  | .ki, .idle => ∃ chunk more, chunk.length ≤ c.maxPayload ∧ e.bytes = (prepareIFrame c chunk more).bytes
  | .ki, .sent => ∃ chunk more, chunk.length ≤ c.maxPayload ∧ e.bytes = iFrameBytes c sendSeq more chunk

/-- Every queued entry's bytes are those of its kind and state. -/
def State.QueueFramesOk (s : State) : Prop := ∀ e ∈ s.q, e.FrameOk s.cfg s.sendSeq

/-- A unit that LSLC may put on the line: SYNC, then the encoding of a frame instruction (R80, R111). -/
def UnitOk (c : Config) (u : List Byte) : Prop :=
  ∃ i F, encode c i = .frame F ∧ u = wireUnit c F

/-- `matches(act)` as a property of the queue (R153). -/
def HeadIsSentControl (act : Byte) (s : State) : Prop :=
  ∃ h rest, s.q = h :: rest ∧ h.kind = .ku ∧ h.st = .sent ∧ h.bytes[1]? = some act

/-- The queue's head is a Sent I-frame (R152). -/
def HeadIsSentIFrame (s : State) : Prop := ∃ h rest, s.q = h :: rest ∧ h.kind = .ki ∧ h.st = .sent

/-- The arrows of the poll sequence (R170). -/
inductive PhaseArrow : Phase → Phase → Prop where
  | begin : PhaseArrow .boundary .rx
  | received : PhaseArrow .rx .tx
  | transmitted : PhaseArrow .tx .hb
  | arbitrated : PhaseArrow .hb .rt
  | ended : PhaseArrow .rt .boundary

/-- The instructions of a list, one after another, stopping where one has no next state. -/
def execAll : List Instr → State → Outcome
  | [], s => .next s
  | i :: rest, s =>
    match exec i s with
    | .next t => execAll rest t
    | .fault r => .fault r
    | .refused r => .refused r

/-- The I-frames a sender's fragments of `m` become on the line, numbered from `seq` on (R173, R196, R263). -/
def fragmentFrames (c : Config) (seq : Half) (m : List Byte) : List Instr :=
  (List.range (fragmentCount c m)).map fun i =>
    .iFrame (seq + BitVec.ofNat 16 i) (i < fragmentCount c m - 1) (chunkAt c m i)

/-- One poll in which nothing is received: how far CLOCK advances before it, and the answers to the writes its transmit, heartbeat and retransmit steps may make (R170, R262). -/
structure SilentPoll where
  ticks : Nat
  tx : WriteResult
  hb : WriteResult
  rt : WriteResult
  deriving DecidableEq, Repr

/-- The moves of a silent poll up to its heartbeat step, where a dead link ends it. -/
def SilentPoll.deadMoves (p : SilentPoll) : List Action :=
  [.clock p.ticks, .engine .timeout .failure, .engine .timeout .failure, .engine .timeout p.tx, .engine .timeout p.hb]

/-- All the moves of a silent poll. -/
def SilentPoll.moves (p : SilentPoll) : List Action := p.deadMoves ++ [.engine .timeout p.rt]

/-- How far CLOCK advances over some silent polls. -/
def SilentPoll.ticksOf (ps : List SilentPoll) : Nat := (ps.map SilentPoll.ticks).sum

end Sys2Proof.Machine
end

