-- ==== Sys2Proof/Certificates/Slice0/Obligations.lean ====
section
/-! DEFINITION. The statements about LSLC, each from the rules its docstring names. -/

open Sys2Proof Sys2Proof.Machine

/-! ## Reset and parameters -/

/-- R38: the reset table, under every parameter assignment, time and schedule. -/
def Obligations.PowerOnResetLeavesTheTableValues : Prop :=
  ∀ (c : Config) (now : Nat) (sched : List Action),
    let s := State.resetWith c now sched
    s.phase = .boundary ∧ s.sendSeq = 0x0001#16 ∧ s.recvSeq = 0x0000#16 ∧ s.probeCount = 0 ∧ s.hbDeadline = 0 ∧
    s.linkState = .idle ∧ s.running = false ∧ s.stopReq = false ∧ s.lastPoll = .none ∧ s.fatalCause = .none ∧
    s.rxCbEn = false ∧ s.evtCbEn = false ∧ s.q = [] ∧ s.rb = [] ∧ s.rxState = .hunt ∧ s.rxBuf = [] ∧ s.rxNeed = 0 ∧
    s.txLog = [] ∧ s.evLog = [] ∧ s.msgLog = [] ∧ s.cmdLog = [] ∧ s.fault = false ∧ s.refused = false ∧
    s.now = now ∧ s.cfg = c ∧ statusWord s = 0x0000#16

/-- R7, R227(b), P13's range in R6, and R8's durations (D1): exactly the assignments with these properties give an initial state; any other is refused. That R227(b)'s refusal takes in P13's range and the durations, which R7 does not list, is the model's reading (DEDUCED, log entry 16). -/
def Obligations.IllFormedParametersGiveNoInitialState : Prop :=
  ∀ (c : Config) (now : Nat) (sched : List Action),
    let admitted : Prop :=
      (c.sync ≠ c.iMark ∧ c.sync ≠ c.uMark ∧ c.sync ≠ c.aMark ∧ c.iMark ≠ c.uMark ∧ c.iMark ≠ c.aMark ∧ c.uMark ≠ c.aMark) ∧
      [0x04#8, 0x08#8, 0x40#8, 0x80#8, c.codeStop, c.codeStopCon, c.codeReset, c.codeResetCon].Nodup ∧
      (1 ≤ c.maxPayload ∧ c.maxPayload ≤ 0x7FFF) ∧ (c.rxMaxPayload ≤ 0x7FFF ∧ c.rxMaxPayload ≤ c.reasmCapacity) ∧
      1 ≤ c.queueDepth ∧ c.tChar ≤ c.tIdle ∧ 1 ≤ c.ticksPerSecond ∧
      c.timeAlive = 15 * c.ticksPerSecond ∧ c.timeHeart = 20 * c.ticksPerSecond
    (c.WellFormed = true ↔ admitted) ∧
    (admitted → State.construct c now sched = .next (State.resetWith c now sched)) ∧
    (¬ admitted → State.construct c now sched = .refused .illFormedParameters)

/-- The invariant holds after power-on reset, under every well-formed parameter assignment, and so do the queued frames' forms. -/
def Obligations.ResetStateMeetsTheInvariant : Prop :=
  ∀ (c : Config) (now : Nat) (sched : List Action), c.WellFormed = true →
    (State.resetWith c now sched).Inv ∧ (State.resetWith c now sched).QueueFramesOk

/-- R6, R8: no step changes a parameter, and `now` never decreases. -/
def Obligations.ParametersStayAndTimeNeverDecreases : Prop :=
  ∀ s s' : State, step s = .next s' → s'.cfg = s.cfg ∧ s.now ≤ s'.now

/-! ## Encoding -/

/-- R81 to R93: for every well-formed instruction, decoding its encoding gives it back, under every well-formed parameter assignment. -/
def Obligations.DecodingAnEncodedInstructionGivesItBack : Prop :=
  ∀ (c : Config) (i : Instr), c.WellFormed = true → i.WellFormed c = true → decode c (encode c i) = .ok i

/-- R81 to R92 under REF: words written out from the layouts decode to the instructions they stand for. -/
def Obligations.WrittenOutWordsDecodeUnderRef : Prop :=
  decodeFrame Config.ref [0x68#8, 0x01#8, 0x00#8, 0x01#8, 0x00#8, 0x68#8, 0x01#8, 0x00#8, 0x41#8, 0xE0#8, 0x30#8, 0x16#8]
      = .ok (.iFrame 0x0001#16 false [0x41#8]) ∧
  decodeFrame Config.ref [0xE5#8] = .ok .aFrame ∧
  decodeFrame Config.ref [0x10#8, 0x04#8, 0x1C#8, 0x16#8] = .ok .uStart ∧
  decodeFrame Config.ref [0x10#8, 0x02#8, 0x0E#8, 0x16#8] = .ok .uResetCon ∧
  decodeFrame Config.ref [0x10#8, 0x03#8, 0x09#8, 0x16#8] = .reject .unknownCode ∧
  decodeCommand [0x06#8, 0x48#8, 0x49#8] = .ok (.cmdSend [0x48#8, 0x49#8]) ∧
  decodeCommand [0x09#8] = .reject .reservedCommand

/-- R121, R82 to R84: a complete I-frame within RX_MAX_PAYLOAD is recognized exactly when its copies agree in all 16 bits, its markers are right (when STRICT_MARKERS) and its CRC matches, and then it is the IFrame of its fields. -/
def Obligations.IFrameIsRecognizedExactlyWhenItsChecksPass : Prop :=
  ∀ (c : Config) (F : List Byte) (i : Instr),
    let L := lengthOf (halfAt F 1)
    F.head? = some c.iMark → F.length = L + 11 → L ≤ c.rxMaxPayload →
    (decodeFrame c F = .ok i ↔
      halfAt F 1 = halfAt F 3 ∧
      (c.strictMarkers = true → F[5]? = some c.iMark ∧ F[10 + L]? = some c.endMark) ∧
      c.crc16 ((F.drop 6).take (2 + L)) = halfAt F (8 + L) ∧
      i = .iFrame (halfAt F 6) (halfAt F 1).msb ((F.drop 8).take L))

/-- R122, R149: a complete U-frame is recognized exactly when its end marker is right (when STRICT_MARKERS), its cs8 is the CRC-8 of its code and its code is one of the eight, and then it is that code's frame. -/
def Obligations.UFrameIsRecognizedExactlyWhenItsChecksPass : Prop :=
  ∀ (c : Config) (code cs8 last : Byte) (i : Instr), c.WellFormed = true →
    (decodeFrame c [c.uMark, code, cs8, last] = .ok i ↔
      (c.strictMarkers = true → last = c.endMark) ∧ c.crc8 code = cs8 ∧
      (code, i) ∈ [(0x04#8, Instr.uStart), (0x08#8, .uStartCon), (0x40#8, .uTest), (0x80#8, .uTestCon),
        (c.codeStop, .uStop), (c.codeStopCon, .uStopCon), (c.codeReset, .uReset), (c.codeResetCon, .uResetCon)])

/-- R197: the fields of an entry that PrepareIFrame builds. -/
def Obligations.PreparedIFrameHasItsFields : Prop :=
  ∀ (c : Config) (chunk : List Byte) (more : Bool), chunk.length ≤ 0x7FFF →
    let e := prepareIFrame c chunk more
    let L := chunk.length
    e.kind = .ki ∧ e.st = .idle ∧ e.sentTime = 0 ∧ e.bytes.length = L + 11 ∧
    e.bytes[0]? = some c.iMark ∧ e.bytes[5]? = some c.iMark ∧ e.bytes[10 + L]? = some c.endMark ∧
    halfAt e.bytes 1 = halfAt e.bytes 3 ∧ moreOf (halfAt e.bytes 1) = more ∧ lengthOf (halfAt e.bytes 1) = L ∧
    halfAt e.bytes 6 = 0x0000#16 ∧ halfAt e.bytes (8 + L) = 0x0000#16 ∧ (e.bytes.drop 8).take L = chunk

/-! ## The step -/

/-- R190: a HOST move whose bytes decode to a command runs that command at the state with the move taken off the schedule; the model's time-width check (DEDUCED, log entry 7) stands around it. -/
def Obligations.StepRunsTheHostCommand : Prop :=
  ∀ (s : State) (bytes : List Byte) (rest : List Action) (i : Instr),
    s.sched = .host bytes :: rest → decode s.cfg (.command bytes) = .ok i →
    step s = withinTime (exec i { s with sched := rest }) ∧
    (s.cfg.timeW = none → step s = exec i { s with sched := rest })

/-- R92, R190, R227(a): the reserved codes, rejected as such whatever follows them, are exactly 0x00 and 0x09 to 0xFF, and a HOST move whose bytes the decoder rejects sets `refused` and changes nothing else. That a code of R92's table with a wrong number of operand bytes, and an empty move, are rejected too is the model's choice (DESIGN CHOICE, log entry 8); the time check around the step is its reading (DEDUCED, log entry 7). -/
def Obligations.ReservedCommandIsRefusedWithNoOtherEffect : Prop :=
  (∀ (code : Byte) (operand : List Byte),
    decodeCommand (code :: operand) = .reject .reservedCommand ↔ code = 0x00#8 ∨ 9 ≤ code.toNat) ∧
  (∀ (code : Byte) (operand : List Byte), decodeCommand (code :: operand) = .reject .badOperand ↔
    (code ∈ [0x01#8, 0x02#8, 0x03#8, 0x04#8, 0x05#8] ∧ operand ≠ []) ∨ (code ∈ [0x07#8, 0x08#8] ∧ operand.length ≠ 1)) ∧
  decodeCommand [] = .reject .reservedCommand ∧
  ∀ (s : State) (bytes : List Byte) (rest : List Action) (e : DecodeError),
    s.sched = .host bytes :: rest → decode s.cfg (.command bytes) = .reject e →
    step s = withinTime (.next { s with sched := rest, refused := true }) ∧
    (s.cfg.timeW = none → step s = .next { s with sched := rest, refused := true })

/-- R119, R154, R202: the ENGINE step that reads a frame's last byte runs the frame's instruction at the state with the synchronizer cleared. If that faults, only the fault is written: that even the clearing is undone, while the move and its draws are used up, is the model's reading (DEDUCED, log entry 9), as is the time check around the step (DEDUCED, log entry 7). -/
def Obligations.StepRunsTheReceivedFrame : Prop :=
  ∀ (s t : State) (b : Byte) (w : WriteResult) (rest : List Action) (i : Instr),
    s.sched = .engine (.byte b) w :: rest → s.running = true → s.fault = false → s.phase = .rx →
    s.rxState = .bodyI ∨ s.rxState = .bodyU → s.rxNeed = 1 →
    decode s.cfg (.frame (s.rxBuf ++ [b])) = .ok i →
    exec i { s with sched := rest, rxDraw := .byte b, txDraw := w, rxBuf := [], rxNeed := 0, rxState := .hunt } = .next t →
    let u : State := if t.fault = true then
        { s with sched := rest, rxDraw := .byte b, txDraw := w, fault := true, faultReason := t.faultReason }
      else t
    step s = withinTime (.next u) ∧ (s.cfg.timeW = none → step s = .next u)

/-- R120: an A-frame is complete at its type byte, and the step that reads it runs it, inside the model's time check (DEDUCED, log entry 7). -/
def Obligations.StepRunsTheAFrameAtItsTypeByte : Prop :=
  ∀ (s : State) (w : WriteResult) (rest : List Action),
    s.cfg.WellFormed = true → s.sched = .engine (.byte s.cfg.aMark) w :: rest → s.running = true → s.fault = false →
    s.phase = .rx → s.rxState = .type →
    let o := exec .aFrame
      { s with sched := rest, rxDraw := .byte s.cfg.aMark, txDraw := w, rxBuf := [], rxNeed := 0, rxState := .hunt }
    step s = withinTime o ∧ (s.cfg.timeW = none → step s = o)

/-- R181: an ENGINE move runs the poll step of the phase exactly when `running = 1` and `fault = 0`. That the move of a disabled ENGINE is a next state which only uses up its place in the schedule is the model's form of the spec's 'stuck' (U19; DEDUCED, log entry 10); the time check around the step is the model's (DEDUCED, log entry 7). -/
def Obligations.EngineMoveRunsItsPollStepExactlyWhenEnabled : Prop :=
  ∀ (s : State) (r : ReadAnswer) (w : WriteResult) (rest : List Action),
    s.sched = .engine r w :: rest →
    (s.running = true ∧ s.fault = false →
      let o := engineStep { s with sched := rest, rxDraw := r, txDraw := w }
      step s = withinTime o ∧ (s.cfg.timeW = none → step s = o)) ∧
    (¬ (s.running = true ∧ s.fault = false) →
      step s = withinTime (.next { s with sched := rest }) ∧ (s.cfg.timeW = none → step s = .next { s with sched := rest }))

/-- R8, R178: a CLOCK move advances `now` and changes nothing else, inside the model's time check (DEDUCED, log entry 7). -/
def Obligations.ClockMoveAdvancesNowOnly : Prop :=
  ∀ (s : State) (d : Nat) (rest : List Action),
    s.sched = .clock d :: rest →
    step s = withinTime (.next { s with sched := rest, now := s.now + d }) ∧
    (s.cfg.timeW = none → step s = .next { s with sched := rest, now := s.now + d })

/-- With unbounded time the machine always has a next state: no instruction and no input stops it. That a fatal condition is a next state is R12's and R223's; that a faulting step and a disabled ENGINE's move are next states (DEDUCED, log entries 9 and 10), and that a step refuses a time overflow and nothing else (DEDUCED, log entry 7), is the model's reading. -/
def Obligations.EveryStepHasANextState : Prop :=
  ∀ s : State, (s.cfg.timeW = none → ∃ s', step s = .next s') ∧
    (∀ r, step s ≠ .fault r) ∧ (∀ r, step s = .refused r → r = .timeOverflow ∧ s.cfg.timeW ≠ none)

/-- U6, the model's reading of it (DEDUCED, log entry 7): under a finite TIME_W, every next state's time values and deadline sums fit it. -/
def Obligations.FiniteTimeWidthNeverOverflows : Prop :=
  ∀ (s s' : State) (n : Nat), s.cfg.timeW = some n → step s = .next s' →
    s'.now < 2 ^ n ∧ s'.hbDeadline < 2 ^ n ∧ ∀ e ∈ s'.q, e.st = .sent → e.sentTime + s'.cfg.timeAlive < 2 ^ n

/-! ## Invariants and whole-machine rules -/

/-- R7, R24, R25, R28, R31 to R34, R36, R179(a), R181: every step keeps the invariant. -/
def Obligations.EveryStepKeepsTheInvariant : Prop :=
  ∀ s s' : State, s.Inv → step s = .next s' → s'.Inv

/-- R83, R173, R174, R197, R198: every step keeps the queued frames' forms. A Sent I-frame is always complete, with the CRC of its bytes and the number `send_seq`. -/
def Obligations.EveryStepKeepsTheQueuedFramesWellFormed : Prop :=
  ∀ s s' : State, s.Inv → s.QueueFramesOk → step s = .next s' → s'.QueueFramesOk

/-- R80, R111: whatever a step writes to the line is SYNC and then the encoding of one frame. -/
def Obligations.EveryTransmittedUnitIsSyncAndOneFrame : Prop :=
  ∀ s s' : State, s.Inv → s.QueueFramesOk → step s = .next s' →
    ∀ u ∈ s'.txLog, u ∈ s.txLog ∨ UnitOk s'.cfg u.1

/-- R170, R21: `phase` moves only along the arrows of the poll sequence, except that a fatal condition moves it to the boundary. -/
def Obligations.PhaseFollowsThePollSequence : Prop :=
  ∀ s s' : State, step s = .next s' →
    s'.phase = s.phase ∨ PhaseArrow s.phase s'.phase ∨
      (s'.phase = .boundary ∧ s'.lastPoll = .fail ∧ s'.linkState = .reset)

/-- R35: the four logs only grow at the end. -/
def Obligations.LogsAreAppendOnly : Prop :=
  ∀ s s' : State, step s = .next s' →
    s.txLog <+: s'.txLog ∧ s.evLog <+: s'.evLog ∧ s.msgLog <+: s'.msgLog ∧ s.cmdLog <+: s'.cmdLog

/-- R31, R71, R179(b): a step appends at the tail, pops the head, rewrites the head in place, or empties the queue; nothing else. -/
def Obligations.QueueChangesOnlyAtItsEnds : Prop :=
  ∀ s s' : State, step s = .next s' →
    s'.q = [] ∨ s'.q = s.q.tail ∨ (∃ es, s'.q = s.q ++ es) ∨
      (∃ h h' rest, s.q = h :: rest ∧ s'.q = h' :: rest ∧ h'.kind = h.kind ∧ h'.st = .sent ∧ h'.sentTime = s.now)

/-- R22, R179(c): `send_seq` changes only by one at the acknowledgment of the Sent I head, or to 1 at a matching RESET-CONFIRM or a fatal reset. -/
def Obligations.SendSeqChangesOnlyByItsThreeWriters : Prop :=
  ∀ s s' : State, step s = .next s' →
    s'.sendSeq = s.sendSeq ∨
    (HeadIsSentIFrame s ∧ s'.sendSeq = s.sendSeq + 1#16 ∧ s'.q = s.q.tail) ∨
    (HeadIsSentControl s.cfg.codeReset s ∧ s'.sendSeq = 0x0001#16 ∧ s'.q = s.q.tail) ∨
    (s'.sendSeq = 0x0001#16 ∧ s'.q = [] ∧ s'.lastPoll = .fail ∧ s'.linkState = .reset)

/-- R23: `recv_seq` only stays, advances by exactly one modulo 2^16, or returns to 0. -/
def Obligations.RecvSeqStaysAdvancesByOneOrClears : Prop :=
  ∀ s s' : State, step s = .next s' →
    s'.recvSeq = s.recvSeq ∨ s'.recvSeq = s.recvSeq + 1#16 ∨ s'.recvSeq = 0x0000#16

/-- R155: what each frame and command does to `link_state`, and that no step changes it but the one that completes a START, a START-CONFIRM, a STOP or a STOP-CONFIRM, or a fatal condition. -/
def Obligations.LinkStateMovesOnlyAsItsTableSays : Prop :=
  (∀ (i : Instr) (s t : State), exec i s = .next t →
    match i with
    | .uStart => t.linkState = if s.txDraw = .count 5 then .active else .reset
    | .uStop => t.linkState = if s.txDraw = .count 5 then .stopped else .reset
    | .uReset | .uTest => t.linkState = if s.txDraw = .count 5 then s.linkState else .reset
    | .uStartCon =>
      (HeadIsSentControl 0x04#8 s → t.linkState = .active) ∧ (¬ HeadIsSentControl 0x04#8 s → t.linkState = s.linkState)
    | .uStopCon =>
      (HeadIsSentControl s.cfg.codeStop s → t.linkState = .stopped) ∧
        (¬ HeadIsSentControl s.cfg.codeStop s → t.linkState = s.linkState)
    | .iFrame seq _ payload =>
      t.linkState =
        if seq ≠ s.recvSeq + 1#16 then .reset
        else if s.cfg.reasmCapacity < s.rb.length + payload.length ∨ s.txDraw = .count 2 then s.linkState
        else .reset
    | .aFrame | .uResetCon | .uTestCon => t.linkState = s.linkState
    | .cmdStart | .cmdStop | .cmdBegin | .cmdReset | .cmdEnd | .cmdSend _ | .cmdRegRx _ | .cmdRegEvt _ =>
      t.linkState = s.linkState) ∧
  ∀ s s' : State, step s = .next s' →
    s'.linkState = s.linkState ∨
    (s'.linkState = .reset ∧ s'.lastPoll = .fail ∧ s'.phase = .boundary) ∨
    (∃ b w i, nextAction s = .engine (.byte b) w ∧ s.phase = .rx ∧ decodeFrame s.cfg (s.rxBuf ++ [b]) = .ok i ∧
      ((i ∈ [.uStart, .uStartCon] ∧ s'.linkState = .active) ∨ (i ∈ [.uStop, .uStopCon] ∧ s'.linkState = .stopped)))

/-- R26, R155, C9: `link_state` gates nothing. From two states that differ in it alone, a step gives states that differ at most in it. -/
def Obligations.LinkStateGatesNothing : Prop :=
  ∀ (s t : State) (l : LinkState), step s = .next t →
    ∃ t', step { s with linkState := l } = .next t' ∧ { t' with linkState := t.linkState } = t

/-- R190 to R200, R225: each host command's own frame. It changes the fields its rule names and the command log, and everything else of the state is as before, so no command raises a fatal condition. CMD_STOP's count of waiting threads is the model's own field (DEDUCED, log entry 5). -/
def Obligations.EachHostCommandChangesOnlyWhatItsRuleNames : Prop :=
  ∀ (i : Instr) (s t : State), exec i s = .next t →
    match i with
    | .cmdStart => t = { s with
        running := t.running, hbDeadline := t.hbDeadline, probeCount := t.probeCount, cmdLog := t.cmdLog }
    | .cmdStop => t = { s with
        stopReq := t.stopReq, stopWaiting := t.stopWaiting, q := t.q, rb := t.rb, cmdLog := t.cmdLog }
    | .cmdBegin | .cmdReset | .cmdEnd | .cmdSend _ => t = { s with q := t.q, cmdLog := t.cmdLog }
    | .cmdRegRx _ => t = { s with rxCbEn := t.rxCbEn, cmdLog := t.cmdLog }
    | .cmdRegEvt _ => t = { s with evtCbEn := t.evtCbEn, cmdLog := t.cmdLog }
    | .iFrame _ _ _ | .aFrame => True
    | .uStart | .uStartCon | .uReset | .uResetCon | .uStop | .uStopCon | .uTest | .uTestCon => True

/-- R40, R154, R223: a received frame leaves the HOST's controls, the command log, the refusal mark and the inputs as they are. -/
def Obligations.ReceivedFramesLeaveTheHostControlsAlone : Prop :=
  ∀ (i : Instr) (s t : State), i.isCommand = false → exec i s = .next t →
    t.cfg = s.cfg ∧ t.now = s.now ∧ t.sched = s.sched ∧ t.turn = s.turn ∧ t.rxDraw = s.rxDraw ∧ t.txDraw = s.txDraw ∧
    t.running = s.running ∧ t.stopReq = s.stopReq ∧ t.stopWaiting = s.stopWaiting ∧ t.rxCbEn = s.rxCbEn ∧
    t.evtCbEn = s.evtCbEn ∧ t.cmdLog = s.cmdLog ∧ t.refused = s.refused

/-- R36, R226: the fault and its reason are sticky, and after a fault nothing is transmitted, received, delivered or emitted. -/
def Obligations.AFaultIsStickyAndSilencesTheEngine : Prop :=
  ∀ s s' : State, s.fault = true → step s = .next s' →
    s'.fault = true ∧ s'.faultReason = s.faultReason ∧ s'.txLog = s.txLog ∧ s'.msgLog = s.msgLog ∧
    s'.evLog = s.evLog ∧ s'.phase = s.phase ∧ s'.sendSeq = s.sendSeq ∧ s'.recvSeq = s.recvSeq

/-! ## The Framer -/

/-- R80, R90, R112 to R123, and §8 item 1: for every frame instruction, the bytes of its wire unit read one by one from HUNT run exactly that instruction, unless it faults. -/
def Obligations.AFrameReadByteByByteRunsItsInstruction : Prop :=
  ∀ (s t : State) (i : Instr) (F : List Byte) (w : WriteResult) (rest : List Action),
    s.cfg.WellFormed = true → s.cfg.timeW = none → i.WellFormed s.cfg = true → encode s.cfg i = .frame F →
    s.running = true → s.fault = false → s.phase = .rx → s.rxState = .hunt → s.rxBuf = [] → s.rxNeed = 0 →
    s.sched = (wireUnit s.cfg F).map (fun b => Action.engine (.byte b) w) ++ rest →
    exec i { s with sched := rest, rxDraw := .byte (F.getLastD 0#8), txDraw := w } = .next t → t.fault = false →
    Sys2Proof.core.run (wireUnit s.cfg F).length s = .next t

/-- R113: the HUNT step, for every answer of its read, which is of the message-idle class. -/
def Obligations.HuntStepSkipsToSync : Prop :=
  ∀ s : State, s.phase = .rx → s.rxState = .hunt →
    readTimeout s = s.cfg.tIdle ∧
    (s.rxDraw = .byte s.cfg.sync → engineStep s = .next { s with rxBuf := [], rxState := .type }) ∧
    (∀ b, b ≠ s.cfg.sync → s.rxDraw = .byte b → engineStep s = .next s) ∧
    (s.rxDraw = .timeout → engineStep s = .next { s with phase := .tx }) ∧
    (s.rxDraw = .error → engineStep s = .next (fatalReset .transportRead s))

/-- R114: the TYPE step, for every answer of its inter-character read. -/
def Obligations.TypeStepSelectsTheFrameKind : Prop :=
  ∀ s : State, s.cfg.WellFormed = true → s.phase = .rx → s.rxState = .type →
    let cleared : State := { s with rxBuf := [], rxNeed := 0, rxState := .hunt }
    readTimeout s = s.cfg.tChar ∧
    (s.rxDraw = .byte s.cfg.iMark → engineStep s = .next { s with rxBuf := [s.cfg.iMark], rxNeed := 2, rxState := .len }) ∧
    (s.rxDraw = .byte s.cfg.uMark → engineStep s = .next { s with rxBuf := [s.cfg.uMark], rxNeed := 3, rxState := .bodyU }) ∧
    (s.fault = false → s.rxDraw = .byte s.cfg.aMark → engineStep s = exec .aFrame cleared) ∧
    (∀ b, b ≠ s.cfg.iMark → b ≠ s.cfg.uMark → b ≠ s.cfg.aMark → s.rxDraw = .byte b → engineStep s = .next cleared) ∧
    (s.rxDraw = .timeout → engineStep s = .next cleared) ∧
    (s.rxDraw = .error → engineStep s = .next (fatalReset .transportRead s))

/-- R115: the LEN step, for every answer of its inter-character read, while the first length copy is incomplete. -/
def Obligations.LenStepReadsTheFirstLengthCopy : Prop :=
  ∀ s : State, s.phase = .rx → s.rxState = .len → 1 ≤ s.rxNeed →
    let cleared : State := { s with rxBuf := [], rxNeed := 0, rxState := .hunt }
    readTimeout s = s.cfg.tChar ∧
    (∀ b, s.rxDraw = .byte b → 2 ≤ s.rxNeed →
      engineStep s = .next { s with rxBuf := s.rxBuf ++ [b], rxNeed := s.rxNeed - 1 }) ∧
    (∀ m lo b, s.rxDraw = .byte b → s.rxNeed = 1 → s.rxBuf = [m, lo] →
      let L := ((b.setWidth 16 <<< 8 ||| lo.setWidth 16).extractLsb' 0 15).toNat
      (s.cfg.rxMaxPayload < L → engineStep s = .next cleared) ∧
      (L ≤ s.cfg.rxMaxPayload →
        engineStep s = .next { s with rxBuf := [m, lo, b], rxNeed := L + 8, rxState := .bodyI })) ∧
    (s.rxDraw = .timeout → engineStep s = .next cleared) ∧
    (s.rxDraw = .error → engineStep s = .next (fatalReset .transportRead s))

/-- R116, R117, R124: the BODY steps, for every answer of their inter-character read. A byte that completes no valid frame is dropped with no other effect, and phase 1 ends. -/
def Obligations.BodyStepCountsBytesAndHandsOff : Prop :=
  ∀ s : State, s.phase = .rx → s.rxState = .bodyI ∨ s.rxState = .bodyU → 1 ≤ s.rxNeed →
    let cleared : State := { s with rxBuf := [], rxNeed := 0, rxState := .hunt }
    readTimeout s = s.cfg.tChar ∧
    (∀ b, s.rxDraw = .byte b → 2 ≤ s.rxNeed →
      engineStep s = .next { s with rxBuf := s.rxBuf ++ [b], rxNeed := s.rxNeed - 1 }) ∧
    (∀ b e, s.rxDraw = .byte b → s.rxNeed = 1 → decodeFrame s.cfg (s.rxBuf ++ [b]) = .reject e →
      engineStep s = .next { cleared with phase := .tx }) ∧
    (∀ b i t, s.rxDraw = .byte b → s.rxNeed = 1 → decodeFrame s.cfg (s.rxBuf ++ [b]) = .ok i →
      exec i cleared = .next t → t.fault = false → engineStep s = .next t) ∧
    (s.rxDraw = .timeout → engineStep s = .next cleared) ∧
    (s.rxDraw = .error → engineStep s = .next (fatalReset .transportRead s))

/-! ## The fatal reset and the transport -/

/-- R223: what the fatal reset writes, and that it writes nothing else. -/
def Obligations.FatalResetWritesItsSequence : Prop :=
  ∀ (cause : FatalCause) (s : State),
    fatalReset cause s = { s with
      sendSeq := 0x0001#16, recvSeq := 0x0000#16, q := [], rb := [], probeCount := 0
      hbDeadline := s.now + s.cfg.timeHeart, rxBuf := [], rxNeed := 0, rxState := .hunt, linkState := .reset
      fatalCause := cause, lastPoll := .fail, phase := .boundary
      evLog := if s.evtCbEn = true then s.evLog ++ [.linkBroken] else s.evLog }

/-- R230: a write is OK exactly when the count the transport returns is the length of the unit. -/
def Obligations.AWriteIsOkExactlyWhenWhole : Prop :=
  ∀ (l : List Byte) (s : State), txWrite l s = .ok ↔ s.txDraw = .count l.length

/-! ## Received U-frames -/

/-- R141 with R140: a received START is confirmed, `started` is emitted and the link is active, when the whole reply is written; else the fatal reset, with the failed write logged. -/
def Obligations.ReceivedStartIsConfirmed : Prop :=
  (∀ c : Config, c.WellFormed = true → decodeFrame c [c.uMark, 0x04#8, c.crc8 0x04#8, c.endMark] = .ok .uStart) ∧
  ∀ s : State,
    let unit := [s.cfg.sync, s.cfg.uMark, 0x08#8, s.cfg.crc8 0x08#8, s.cfg.endMark]
    (s.txDraw = .count 5 → exec .uStart s = .next { s with
      hbDeadline := s.now + s.cfg.timeHeart, probeCount := 0, txLog := s.txLog ++ [(unit, .ok)]
      evLog := if s.evtCbEn = true then s.evLog ++ [.started] else s.evLog, linkState := .active, phase := .tx }) ∧
    (s.txDraw ≠ .count 5 → exec .uStart s = .next (fatalReset .transportWrite { s with
      hbDeadline := s.now + s.cfg.timeHeart, probeCount := 0, txLog := s.txLog ++ [(unit, .fail)] }))

/-- R143 with R140: a received RESET is confirmed, `recv_seq` and `RB` are cleared and `reset` is emitted; else the fatal reset. -/
def Obligations.ReceivedResetClearsTheReceiver : Prop :=
  (∀ c : Config, c.WellFormed = true → decodeFrame c [c.uMark, c.codeReset, c.crc8 c.codeReset, c.endMark] = .ok .uReset) ∧
  ∀ s : State,
    let unit := [s.cfg.sync, s.cfg.uMark, s.cfg.codeResetCon, s.cfg.crc8 s.cfg.codeResetCon, s.cfg.endMark]
    (s.txDraw = .count 5 → exec .uReset s = .next { s with
      hbDeadline := s.now + s.cfg.timeHeart, probeCount := 0, txLog := s.txLog ++ [(unit, .ok)]
      recvSeq := 0x0000#16, rb := []
      evLog := if s.evtCbEn = true then s.evLog ++ [.reset] else s.evLog, phase := .tx }) ∧
    (s.txDraw ≠ .count 5 → exec .uReset s = .next (fatalReset .transportWrite { s with
      hbDeadline := s.now + s.cfg.timeHeart, probeCount := 0, txLog := s.txLog ++ [(unit, .fail)] }))

/-- R145 with R140: a received STOP is confirmed, `stopped` is emitted and the link is stopped, with polling, queue and counters going on; else the fatal reset. -/
def Obligations.ReceivedStopIsConfirmed : Prop :=
  (∀ c : Config, c.WellFormed = true → decodeFrame c [c.uMark, c.codeStop, c.crc8 c.codeStop, c.endMark] = .ok .uStop) ∧
  ∀ s : State,
    let unit := [s.cfg.sync, s.cfg.uMark, s.cfg.codeStopCon, s.cfg.crc8 s.cfg.codeStopCon, s.cfg.endMark]
    (s.txDraw = .count 5 → exec .uStop s = .next { s with
      hbDeadline := s.now + s.cfg.timeHeart, probeCount := 0, txLog := s.txLog ++ [(unit, .ok)]
      evLog := if s.evtCbEn = true then s.evLog ++ [.stopped] else s.evLog, linkState := .stopped, phase := .tx }) ∧
    (s.txDraw ≠ .count 5 → exec .uStop s = .next (fatalReset .transportWrite { s with
      hbDeadline := s.now + s.cfg.timeHeart, probeCount := 0, txLog := s.txLog ++ [(unit, .fail)] }))

/-- R147 with R140: a received TEST is confirmed and nothing more than the prefix is written; else the fatal reset. -/
def Obligations.ReceivedTestIsConfirmed : Prop :=
  (∀ c : Config, c.WellFormed = true → decodeFrame c [c.uMark, 0x40#8, c.crc8 0x40#8, c.endMark] = .ok .uTest) ∧
  ∀ s : State,
    let unit := [s.cfg.sync, s.cfg.uMark, 0x80#8, s.cfg.crc8 0x80#8, s.cfg.endMark]
    (s.txDraw = .count 5 → exec .uTest s = .next { s with
      hbDeadline := s.now + s.cfg.timeHeart, probeCount := 0, txLog := s.txLog ++ [(unit, .ok)], phase := .tx }) ∧
    (s.txDraw ≠ .count 5 → exec .uTest s = .next (fatalReset .transportWrite { s with
      hbDeadline := s.now + s.cfg.timeHeart, probeCount := 0, txLog := s.txLog ++ [(unit, .fail)] }))

/-- R142, R153 with R140: START-CONFIRM pops the Sent START at the head, emits `start-confirmed` and makes the link active; with no match only the prefix runs. -/
def Obligations.StartConfirmPopsItsStart : Prop :=
  (∀ c : Config, c.WellFormed = true → decodeFrame c [c.uMark, 0x08#8, c.crc8 0x08#8, c.endMark] = .ok .uStartCon) ∧
  ∀ s : State,
    (HeadIsSentControl 0x04#8 s → exec .uStartCon s = .next { s with
      hbDeadline := s.now + s.cfg.timeHeart, probeCount := 0, q := s.q.tail
      evLog := if s.evtCbEn = true then s.evLog ++ [.startConfirmed] else s.evLog, linkState := .active, phase := .tx }) ∧
    (¬ HeadIsSentControl 0x04#8 s → exec .uStartCon s = .next { s with
      hbDeadline := s.now + s.cfg.timeHeart, probeCount := 0, phase := .tx })

/-- R144, R153 with R140: RESET-CONFIRM pops the Sent RESET at the head, sets `send_seq` to 1 and emits `reset-confirmed`; with no match only the prefix runs. -/
def Obligations.ResetConfirmRestartsTheSender : Prop :=
  (∀ c : Config, c.WellFormed = true →
    decodeFrame c [c.uMark, c.codeResetCon, c.crc8 c.codeResetCon, c.endMark] = .ok .uResetCon) ∧
  ∀ s : State,
    (HeadIsSentControl s.cfg.codeReset s → exec .uResetCon s = .next { s with
      hbDeadline := s.now + s.cfg.timeHeart, probeCount := 0, q := s.q.tail, sendSeq := 0x0001#16
      evLog := if s.evtCbEn = true then s.evLog ++ [.resetConfirmed] else s.evLog, phase := .tx }) ∧
    (¬ HeadIsSentControl s.cfg.codeReset s → exec .uResetCon s = .next { s with
      hbDeadline := s.now + s.cfg.timeHeart, probeCount := 0, phase := .tx })

/-- R146, R153 with R140: STOP-CONFIRM pops the Sent STOP at the head, emits `stop-confirmed` and makes the link stopped; with no match only the prefix runs. -/
def Obligations.StopConfirmPopsItsStop : Prop :=
  (∀ c : Config, c.WellFormed = true →
    decodeFrame c [c.uMark, c.codeStopCon, c.crc8 c.codeStopCon, c.endMark] = .ok .uStopCon) ∧
  ∀ s : State,
    (HeadIsSentControl s.cfg.codeStop s → exec .uStopCon s = .next { s with
      hbDeadline := s.now + s.cfg.timeHeart, probeCount := 0, q := s.q.tail
      evLog := if s.evtCbEn = true then s.evLog ++ [.stopConfirmed] else s.evLog, linkState := .stopped, phase := .tx }) ∧
    (¬ HeadIsSentControl s.cfg.codeStop s → exec .uStopCon s = .next { s with
      hbDeadline := s.now + s.cfg.timeHeart, probeCount := 0, phase := .tx })

/-- R148, R153 with R140: TEST-CONFIRM clears the probe counter and re-arms the deadline; it pops a Sent TEST at the head, which no command ever queues. -/
def Obligations.TestConfirmClearsTheProbeCount : Prop :=
  (∀ c : Config, c.WellFormed = true → decodeFrame c [c.uMark, 0x80#8, c.crc8 0x80#8, c.endMark] = .ok .uTestCon) ∧
  ∀ s : State,
    (HeadIsSentControl 0x40#8 s → exec .uTestCon s = .next { s with
      hbDeadline := s.now + s.cfg.timeHeart, probeCount := 0, q := s.q.tail, phase := .tx }) ∧
    (¬ HeadIsSentControl 0x40#8 s → exec .uTestCon s = .next { s with
      hbDeadline := s.now + s.cfg.timeHeart, probeCount := 0, phase := .tx })

/-! ## Received I-frames and A-frames -/

/-- R150, R151, R201 to R203 with R140: an I-frame of the next number is taken into the reassembly buffer, delivered when no more follow, counted and acknowledged; a failing acknowledgment is fatal after the delivery; one past the buffer's capacity faults and writes nothing else; any other number is a fatal sequence violation. -/
def Obligations.IFrameIsAcceptedFaultsOrViolatesTheSequence : Prop :=
  ∀ (s : State) (seq : Half) (more : Bool) (payload : List Byte),
    let unit := [s.cfg.sync, s.cfg.aMark]
    let taken : State := { s with
      hbDeadline := s.now + s.cfg.timeHeart, probeCount := 0, recvSeq := seq
      rb := if more = true then s.rb ++ payload else []
      msgLog := if more = false ∧ s.rxCbEn = true then s.msgLog ++ [s.rb ++ payload] else s.msgLog }
    (seq = s.recvSeq + 1#16 → s.rb.length + payload.length ≤ s.cfg.reasmCapacity → s.txDraw = .count 2 →
      exec (.iFrame seq more payload) s = .next { taken with txLog := s.txLog ++ [(unit, .ok)], phase := .tx }) ∧
    (seq = s.recvSeq + 1#16 → s.rb.length + payload.length ≤ s.cfg.reasmCapacity → s.txDraw ≠ .count 2 →
      exec (.iFrame seq more payload) s = .next (fatalReset .transportWrite { taken with txLog := s.txLog ++ [(unit, .fail)] })) ∧
    (seq = s.recvSeq + 1#16 → s.cfg.reasmCapacity < s.rb.length + payload.length →
      exec (.iFrame seq more payload) s = .next { s with fault := true, faultReason := some .reasmOverflow }) ∧
    (seq ≠ s.recvSeq + 1#16 →
      exec (.iFrame seq more payload) s = .next (fatalReset .seqViolation { s with
        hbDeadline := s.now + s.cfg.timeHeart, probeCount := 0 }))

/-- R152 with R140: an A-frame pops the Sent I-frame at the head and advances `send_seq` by one modulo 2^16; with none there, only the prefix runs. -/
def Obligations.AFrameAcknowledgesTheSentIFrame : Prop :=
  ∀ s : State,
    (HeadIsSentIFrame s → exec .aFrame s = .next { s with
      hbDeadline := s.now + s.cfg.timeHeart, probeCount := 0, q := s.q.tail, sendSeq := s.sendSeq + 1#16, phase := .tx }) ∧
    (¬ HeadIsSentIFrame s → exec .aFrame s = .next { s with
      hbDeadline := s.now + s.cfg.timeHeart, probeCount := 0, phase := .tx })

/-- R72, R196, R201, R205, §8 item 5: the fragments of a message, received in sequence by a block with room for it, deliver exactly the message once, and leave the buffer empty and `recv_seq` past all of them. -/
def Obligations.FragmentsReassembleToTheMessage : Prop :=
  ∀ (c : Config) (m : List Byte) (r : State),
    1 ≤ c.maxPayload → m ≠ [] → r.rb = [] → m.length ≤ r.cfg.reasmCapacity → r.rxCbEn = true → r.txDraw = .count 2 →
    ∃ t, execAll (fragmentFrames c (r.recvSeq + 1#16) m) r = .next t ∧
      t.msgLog = r.msgLog ++ [m] ∧ t.rb = [] ∧ t.recvSeq = r.recvSeq + BitVec.ofNat 16 (fragmentCount c m)

/-! ## The poll steps -/

/-- R171, R192: at the boundary a requested stop completes, with the status of every CMD_STOP that waits; else phase 1 begins. The count of the waiting threads is the model's own (DEDUCED, log entry 5). -/
def Obligations.BoundaryStepStopsOrBeginsThePoll : Prop :=
  ∀ s : State, s.phase = .boundary →
    (s.stopReq = true → engineStep s = .next { s with
      running := false, stopReq := false, stopWaiting := 0, q := [], rb := []
      cmdLog := s.cmdLog ++ List.replicate s.stopWaiting (.cmdStop, .ok) }) ∧
    (s.stopReq = false → engineStep s = .next { s with phase := .rx, rxState := .hunt })

/-- R173, R174: an Idle I-frame at the head goes out numbered `send_seq`, with its CRC, and becomes Sent; an Idle U-frame goes out as stored; a Sent head or an empty queue sends nothing; a failing write is fatal. -/
def Obligations.TransmitStepSendsTheIdleHead : Prop :=
  ∀ (s : State) (rest : List Entry), s.phase = .tx →
    (∀ chunk more, s.q = prepareIFrame s.cfg chunk more :: rest →
      let F := iFrameBytes s.cfg s.sendSeq more chunk
      (s.txDraw = .count (chunk.length + 12) → engineStep s = .next { s with
        q := ⟨.ki, F, .sent, s.now⟩ :: rest, txLog := s.txLog ++ [(s.cfg.sync :: F, .ok)], phase := .hb }) ∧
      (s.txDraw ≠ .count (chunk.length + 12) → engineStep s = .next (fatalReset .transportWrite { s with
        txLog := s.txLog ++ [(s.cfg.sync :: F, .fail)] }))) ∧
    (∀ F t, s.q = ⟨.ku, F, .idle, t⟩ :: rest →
      (s.txDraw = .count (F.length + 1) → engineStep s = .next { s with
        q := ⟨.ku, F, .sent, s.now⟩ :: rest, txLog := s.txLog ++ [(s.cfg.sync :: F, .ok)], phase := .hb }) ∧
      (s.txDraw ≠ .count (F.length + 1) → engineStep s = .next (fatalReset .transportWrite { s with
        txLog := s.txLog ++ [(s.cfg.sync :: F, .fail)] }))) ∧
    (∀ h, s.q = h :: rest → h.st = .sent → engineStep s = .next { s with phase := .hb }) ∧
    (s.q = [] → engineStep s = .next { s with phase := .hb })

/-- R175, R180: strictly after the deadline the heartbeat probes with TEST, counts and re-arms, unless the count is above 2, which is fatal; at the deadline or before, nothing. -/
def Obligations.HeartbeatStepProbesOrDeclaresTheLinkDead : Prop :=
  ∀ s : State, s.phase = .hb →
    let unit := [s.cfg.sync, s.cfg.uMark, 0x40#8, s.cfg.crc8 0x40#8, s.cfg.endMark]
    (s.now ≤ s.hbDeadline → engineStep s = .next { s with phase := .rt }) ∧
    (s.hbDeadline < s.now → 2 < s.probeCount → engineStep s = .next (fatalReset .probeExhausted s)) ∧
    (s.hbDeadline < s.now → s.probeCount ≤ 2 → s.txDraw = .count 5 → engineStep s = .next { s with
      txLog := s.txLog ++ [(unit, .ok)], probeCount := s.probeCount + 1, hbDeadline := s.now + s.cfg.timeHeart, phase := .rt }) ∧
    (s.hbDeadline < s.now → s.probeCount ≤ 2 → s.txDraw ≠ .count 5 →
      engineStep s = .next (fatalReset .transportWrite { s with txLog := s.txLog ++ [(unit, .fail)] }))

/-- R176, R177, R180: a Sent head of either kind, strictly past TIME_ALIVE, is sent again unchanged and restamped; otherwise nothing is sent; the poll ends with `last_poll = OK`. -/
def Obligations.RetransmitStepResendsTheLateHead : Prop :=
  ∀ s : State, s.phase = .rt →
    (∀ h rest, s.q = h :: rest → h.st = .sent → s.cfg.timeAlive < s.now - h.sentTime →
      (s.txDraw = .count (h.bytes.length + 1) → engineStep s = .next { s with
        q := { h with sentTime := s.now } :: rest, txLog := s.txLog ++ [(s.cfg.sync :: h.bytes, .ok)]
        lastPoll := .ok, phase := .boundary }) ∧
      (s.txDraw ≠ .count (h.bytes.length + 1) → engineStep s = .next (fatalReset .transportWrite { s with
        txLog := s.txLog ++ [(s.cfg.sync :: h.bytes, .fail)] }))) ∧
    ((∀ h rest, s.q = h :: rest → h.st = .idle ∨ s.now - h.sentTime ≤ s.cfg.timeAlive) →
      engineStep s = .next { s with lastPoll := .ok, phase := .boundary })

/-- R262, R180: with nothing received and no write failing, whatever the queue holds and however many polls pass in between, the first poll past each of the first three deadlines sends a probe, and the first past the fourth declares the link dead: three probes in all. -/
def Obligations.SilentPeerIsDeclaredDeadAtTheFourthDeadline : Prop :=
  ∀ (s : State) (early₁ early₂ early₃ early₄ : List SilentPoll) (late₁ late₂ late₃ late₄ : SilentPoll) (rest : List Action),
    let H := s.cfg.timeHeart
    let polls := early₁ ++ late₁ :: early₂ ++ late₂ :: early₃ ++ late₃ :: early₄
    let moves := polls.flatMap SilentPoll.moves ++ late₄.deadMoves
    let probe := ([s.cfg.sync, s.cfg.uMark, 0x40#8, s.cfg.crc8 0x40#8, s.cfg.endMark], WriteAnswer.ok)
    s.Inv → s.QueueFramesOk → s.cfg.timeW = none →
    s.phase = .boundary → s.running = true → s.fault = false → s.stopReq = false → s.probeCount = 0 →
    (early₁ ≠ [] → s.now + SilentPoll.ticksOf early₁ ≤ s.hbDeadline) → s.hbDeadline < s.now + SilentPoll.ticksOf early₁ + late₁.ticks →
    SilentPoll.ticksOf early₂ ≤ H → H < SilentPoll.ticksOf early₂ + late₂.ticks →
    SilentPoll.ticksOf early₃ ≤ H → H < SilentPoll.ticksOf early₃ + late₃.ticks →
    SilentPoll.ticksOf early₄ ≤ H → H < SilentPoll.ticksOf early₄ + late₄.ticks →
    s.sched = moves ++ rest →
    (∀ n t, n ≤ moves.length → Sys2Proof.core.run n s = .next t → ∀ u ∈ t.txLog.drop s.txLog.length, u.2 = .ok) →
    ∃ t : State, Sys2Proof.core.run moves.length s = .next t ∧
      (t.txLog.drop s.txLog.length).count probe = 3 ∧
      t.fatalCause = .probeExhausted ∧ t.lastPoll = .fail ∧ t.linkState = .reset ∧ t.running = true ∧ t.q = [] ∧
      t.now = s.now + SilentPoll.ticksOf polls + late₄.ticks ∧ t.hbDeadline = t.now + H

/-! ## Host commands -/

/-- R191: CMD_START starts a stopped block and arms its heartbeat; in a running one it changes nothing but the log. -/
def Obligations.StartCommandStartsOnce : Prop :=
  decodeCommand [0x01#8] = .ok .cmdStart ∧
  ∀ s : State,
    (s.running = false → exec .cmdStart s = .next { s with
      running := true, hbDeadline := s.now + s.cfg.timeHeart, probeCount := 0, cmdLog := s.cmdLog ++ [(.cmdStart, .ok)] }) ∧
    (s.running = true → exec .cmdStart s = .next { s with cmdLog := s.cmdLog ++ [(.cmdStart, .ok)] })

/-- R192, R171: CMD_STOP of a stopped block clears both buffers at once; of a running one it sets the request, and the boundary step completes it. The count of the waiting threads is the model's own (DEDUCED, log entry 5). -/
def Obligations.StopCommandClearsAtOnceOrAtTheBoundary : Prop :=
  decodeCommand [0x02#8] = .ok .cmdStop ∧
  ∀ s : State,
    (s.running = false → exec .cmdStop s = .next { s with q := [], rb := [], cmdLog := s.cmdLog ++ [(.cmdStop, .ok)] }) ∧
    (s.running = true → exec .cmdStop s = .next { s with stopReq := true, stopWaiting := s.stopWaiting + 1 }) ∧
    (s.running = true → s.phase = .boundary → ∃ t, exec .cmdStop s = .next t ∧ engineStep t = .next { s with
      running := false, stopReq := false, stopWaiting := 0, q := [], rb := []
      cmdLog := s.cmdLog ++ List.replicate (s.stopWaiting + 1) (.cmdStop, .ok) })

/-- R193 to R195, R198: CMD_BEGIN, CMD_RESET and CMD_END queue a START, a RESET and a STOP at the tail when there is room. -/
def Obligations.LifecycleCommandsQueueTheirControlFrames : Prop :=
  (decodeCommand [0x03#8] = .ok .cmdBegin ∧ decodeCommand [0x04#8] = .ok .cmdReset ∧ decodeCommand [0x05#8] = .ok .cmdEnd) ∧
  ∀ s : State,
    let entry (code : Byte) : Entry := ⟨.ku, [s.cfg.uMark, code, s.cfg.crc8 code, s.cfg.endMark], .idle, 0⟩
    (s.q.length < s.cfg.queueDepth →
      exec .cmdBegin s = .next { s with q := s.q ++ [entry 0x04#8], cmdLog := s.cmdLog ++ [(.cmdBegin, .ok)] } ∧
      exec .cmdReset s = .next { s with q := s.q ++ [entry s.cfg.codeReset], cmdLog := s.cmdLog ++ [(.cmdReset, .ok)] } ∧
      exec .cmdEnd s = .next { s with q := s.q ++ [entry s.cfg.codeStop], cmdLog := s.cmdLog ++ [(.cmdEnd, .ok)] }) ∧
    (s.cfg.queueDepth ≤ s.q.length →
      exec .cmdBegin s = .next { s with cmdLog := s.cmdLog ++ [(.cmdBegin, .queueFull)] } ∧
      exec .cmdReset s = .next { s with cmdLog := s.cmdLog ++ [(.cmdReset, .queueFull)] } ∧
      exec .cmdEnd s = .next { s with cmdLog := s.cmdLog ++ [(.cmdEnd, .queueFull)] })

/-- R196: CMD_SEND pushes all its fragments as one block when they fit, and none of them otherwise. That the log entry keeps the whole message is the model's choice (DESIGN CHOICE, log entry 12). -/
def Obligations.SendCommandQueuesAllFragmentsOrNone : Prop :=
  (∀ m : List Byte, decodeCommand (0x06#8 :: m) = .ok (.cmdSend m)) ∧
  ∀ (s : State) (m : List Byte), 1 ≤ s.cfg.maxPayload →
    let M := s.cfg.maxPayload
    let k := (m.length + M - 1) / M
    let entries := (List.range k).map fun i => prepareIFrame s.cfg ((m.drop (i * M)).take M) (i < k - 1)
    (s.q.length + k ≤ s.cfg.queueDepth →
      exec (.cmdSend m) s = .next { s with q := s.q ++ entries, cmdLog := s.cmdLog ++ [(.cmdSend m, .ok)] }) ∧
    (s.cfg.queueDepth < s.q.length + k →
      exec (.cmdSend m) s = .next { s with cmdLog := s.cmdLog ++ [(.cmdSend m, .queueFull)] })

/-- R205: a CMD_SEND of n bytes that fits pushes the ceiling of n / MAX_PAYLOAD entries: each full and with the more flag but the last, which holds the rest. Joined, the fragments are the message. That the log entry keeps the whole message is the model's choice (DESIGN CHOICE, log entry 12). -/
def Obligations.FragmentsCoverTheMessageInOrder : Prop :=
  ∀ (s : State) (m : List Byte), 1 ≤ s.cfg.maxPayload →
    let M := s.cfg.maxPayload
    let k := (m.length + M - 1) / M
    s.q.length + k ≤ s.cfg.queueDepth →
    ∃ (chunks : List (List Byte)) (t : State),
      exec (.cmdSend m) s = .next t ∧ t.cmdLog = s.cmdLog ++ [(.cmdSend m, .ok)] ∧
      t.q = s.q ++ chunks.mapIdx (fun i chunk => prepareIFrame s.cfg chunk (i + 1 < k)) ∧
      chunks.length = k ∧ chunks.flatten = m ∧
      (∀ i chunk, i + 1 < k → chunks[i]? = some chunk → chunk.length = M) ∧
      (∀ i chunk, i + 1 = k → chunks[i]? = some chunk → chunk.length = m.length - i * M)

/-- R93, R199, R200: the registration commands copy bit 0 of their operand byte to their enable bit, whatever its other bits. That the log entry keeps the whole operand byte, its ignored bits too, is the model's choice (DESIGN CHOICE, log entry 12). -/
def Obligations.RegistrationCommandsCopyBitZero : Prop :=
  (∀ en : Byte, decodeCommand [0x07#8, en] = .ok (.cmdRegRx en) ∧ decodeCommand [0x08#8, en] = .ok (.cmdRegEvt en)) ∧
  ∀ (s : State) (en : Byte),
    exec (.cmdRegRx en) s = .next { s with rxCbEn := en.getLsbD 0, cmdLog := s.cmdLog ++ [(.cmdRegRx en, .ok)] } ∧
    exec (.cmdRegEvt en) s = .next { s with evtCbEn := en.getLsbD 0, cmdLog := s.cmdLog ++ [(.cmdRegEvt en, .ok)] }

/-! ## The status word -/

/-- R26, R29, R39, R224: every field of STATUS and of the other HOST-readable registers. That a count above 0xFFFF reads as its low 16 bits is the model's choice (DESIGN CHOICE, log entry 14). -/
def Obligations.StatusWordHasItsFields : Prop :=
  ∀ s : State,
    let w := hostRead .status s
    w.extractLsb' 0 2 = (match s.linkState with | .idle => 0#2 | .active => 1#2 | .stopped => 2#2 | .reset => 3#2) ∧
    w.getLsbD 2 = s.running ∧ w.getLsbD 3 = s.stopReq ∧
    w.extractLsb' 4 2 = (match s.lastPoll with | .none => 0#2 | .ok => 1#2 | .fail => 2#2) ∧
    w.extractLsb' 6 3 = (match s.fatalCause with
      | .none => 0#3 | .seqViolation => 1#3 | .probeExhausted => 2#3 | .transportWrite => 3#3 | .transportRead => 4#3) ∧
    w.getLsbD 9 = s.fault ∧ w.getLsbD 10 = s.refused ∧ w.getLsbD 11 = s.rxCbEn ∧ w.getLsbD 12 = s.evtCbEn ∧
    w.extractLsb' 13 3 = 0#3 ∧
    hostRead .sendSeq s = s.sendSeq ∧ hostRead .recvSeq s = s.recvSeq ∧
    hostRead .probeCount s = BitVec.ofNat 16 s.probeCount ∧
    hostRead .lenQ s = BitVec.ofNat 16 s.q.length ∧ hostRead .lenRB s = BitVec.ofNat 16 s.rb.length
end

