-- ==== Sys2Proof/Laws/Encoding.lean ====
section
/-! SUPPORT. Lemmas on the length field, on the fields of an I-frame's bytes, and on what a well-formed parameter assignment gives. -/

namespace Sys2Proof

theorem Config.wellFormed_iff (c : Config) :
    c.WellFormed = true ↔ c.MarksDistinct ∧ c.CodesDistinct ∧ c.TxPayloadOk ∧ c.RxPayloadOk ∧ c.QueueOk ∧ c.TimeoutsOk ∧ c.TicksOk ∧ c.DurationsOk := by
  simp only [Config.WellFormed, decide_eq_true_eq]

theorem Config.uMark_ne_iMark {c : Config} (h : c.WellFormed = true) : c.uMark ≠ c.iMark := by
  have h1 := (c.wellFormed_iff.1 h).1
  simp [Config.MarksDistinct] at h1
  exact fun e => h1.2.1.1 e.symm

theorem Config.aMark_ne_iMark {c : Config} (h : c.WellFormed = true) : c.aMark ≠ c.iMark := by
  have h1 := (c.wellFormed_iff.1 h).1
  simp [Config.MarksDistinct] at h1
  exact fun e => h1.2.1.2 e.symm

theorem Config.aMark_ne_uMark {c : Config} (h : c.WellFormed = true) : c.aMark ≠ c.uMark := by
  have h1 := (c.wellFormed_iff.1 h).1
  simp [Config.MarksDistinct] at h1
  exact fun e => h1.2.2 e.symm

theorem lengthOf_lengthField (more : Bool) (L : Nat) (h : L ≤ 0x7FFF) : lengthOf (lengthField more L) = L := by
  unfold lengthOf lengthField
  have e : ((BitVec.ofBool more).setWidth 16 <<< 15 ||| BitVec.ofNat 16 L).extractLsb' 0 15 = BitVec.ofNat 15 L := by
    apply BitVec.eq_of_getLsbD_eq
    intro i hi
    have : i < 16 := by omega
    simp [hi, this, -BitVec.getLsbD_eq_getElem, BitVec.getLsbD_ofNat]
  rw [e]
  simp
  omega

theorem moreOf_lengthField (more : Bool) (L : Nat) (h : L ≤ 0x7FFF) : moreOf (lengthField more L) = more := by
  unfold moreOf lengthField
  have : (BitVec.ofNat 16 L)[15] = false := by
    rw [← BitVec.getLsbD_eq_getElem, BitVec.getLsbD_ofNat]
    simp
    exact Nat.testBit_lt_two_pow (by omega)
  cases more <;> simp [BitVec.msb_eq_getLsbD_last, this]

@[simp] theorem fromLe16_le16 (v : Half) : fromLe16 (v.extractLsb' 0 8) (v.extractLsb' 8 8) = v := by
  unfold fromLe16
  apply BitVec.eq_of_getLsbD_eq
  intro i hi
  interval_cases i <;> simp

/-- A 16-bit field after a prefix reads back. -/
theorem halfAt_prefix (A : List Byte) (v : Half) (B : List Byte) : halfAt (A ++ le16 v ++ B) A.length = v := by
  simp [halfAt, le16]

/-! ## The fields of an I-frame's bytes (R81) -/

variable (c : Config) (seq : Half) (more : Bool) (p : List Byte)

@[simp] theorem halfAt_iFrameBytes_1 : halfAt (iFrameBytes c seq more p) 1 = lengthField more p.length := by
  simp [iFrameBytes, halfAt, le16]

@[simp] theorem halfAt_iFrameBytes_3 : halfAt (iFrameBytes c seq more p) 3 = lengthField more p.length := by
  simp [iFrameBytes, halfAt, le16]

@[simp] theorem halfAt_iFrameBytes_6 : halfAt (iFrameBytes c seq more p) 6 = seq := by
  simp [iFrameBytes, halfAt, le16]

@[simp] theorem length_iFrameBytes : (iFrameBytes c seq more p).length = p.length + 11 := by
  simp [iFrameBytes, le16]

@[simp] theorem payload_iFrameBytes : ((iFrameBytes c seq more p).drop 8).take p.length = p := by
  simp [iFrameBytes, le16]

@[simp] theorem crcSpan_iFrameBytes : ((iFrameBytes c seq more p).drop 6).take (2 + p.length) = le16 seq ++ p := by
  simp [iFrameBytes, le16, Nat.add_comm 2]

theorem halfAt_iFrameBytes_crc : halfAt (iFrameBytes c seq more p) (8 + p.length) = c.crc16 (le16 seq ++ p) := by
  have h := halfAt_prefix ([c.iMark] ++ le16 (lengthField more p.length) ++ le16 (lengthField more p.length) ++ [c.iMark]
    ++ le16 seq ++ p) (c.crc16 (le16 seq ++ p)) [c.endMark]
  have e : ([c.iMark] ++ le16 (lengthField more p.length) ++ le16 (lengthField more p.length) ++ [c.iMark]
    ++ le16 seq ++ p).length = 8 + p.length := by simp [le16]; omega
  rw [e] at h
  exact h

theorem end_iFrameBytes : (iFrameBytes c seq more p).getD (10 + p.length) 0#8 = c.endMark := by
  simp [iFrameBytes, le16, Nat.add_comm 10]

theorem mark2_iFrameBytes : (iFrameBytes c seq more p).getD 5 0#8 = c.iMark := by
  simp [iFrameBytes, le16]

/-- The validation of a complete I-frame passes (R121). -/
theorem decodeI_iFrameBytes (h : p.length ≤ c.rxMaxPayload) (h' : p.length ≤ 0x7FFF) :
    decodeI c (iFrameBytes c seq more p) = .ok (.iFrame seq more p) := by
  simp only [decodeI, halfAt_iFrameBytes_1, halfAt_iFrameBytes_3, halfAt_iFrameBytes_6, length_iFrameBytes,
    lengthOf_lengthField _ _ h', moreOf_lengthField _ _ h', payload_iFrameBytes, crcSpan_iFrameBytes,
    halfAt_iFrameBytes_crc, end_iFrameBytes, mark2_iFrameBytes]
  simp [Nat.not_lt.2 h]

@[simp] theorem length_uFrame (code : Byte) : (uFrame c code).length = 4 := rfl

/-- A prepared I-frame, once filled in, is the I-frame of its fields (R173, R197). -/
theorem Machine.fillSeqCrc_prepareIFrame :
    Machine.fillSeqCrc c seq (Machine.prepareIFrame c p more).bytes = iFrameBytes c seq more p := by
  simp [Machine.fillSeqCrc, Machine.prepareIFrame, iFrameBytes, Machine.patch, le16, Nat.add_comm 8, Nat.add_comm 2]

end Sys2Proof
end

