-- ==== Sys2Proof/Laws/State.lean ====
section
/-! SUPPORT. One lemma per field per update: what each shared operation on State leaves in each field. -/

namespace Sys2Proof.Machine

variable (s : State)

/-! ## `Emit` -/

@[simp] theorem emit_cfg (ev : Event) : (emit ev s).cfg = s.cfg := rfl
@[simp] theorem emit_now (ev : Event) : (emit ev s).now = s.now := rfl
@[simp] theorem emit_sched (ev : Event) : (emit ev s).sched = s.sched := rfl
@[simp] theorem emit_turn (ev : Event) : (emit ev s).turn = s.turn := rfl
@[simp] theorem emit_rxDraw (ev : Event) : (emit ev s).rxDraw = s.rxDraw := rfl
@[simp] theorem emit_txDraw (ev : Event) : (emit ev s).txDraw = s.txDraw := rfl
@[simp] theorem emit_phase (ev : Event) : (emit ev s).phase = s.phase := rfl
@[simp] theorem emit_sendSeq (ev : Event) : (emit ev s).sendSeq = s.sendSeq := rfl
@[simp] theorem emit_recvSeq (ev : Event) : (emit ev s).recvSeq = s.recvSeq := rfl
@[simp] theorem emit_probeCount (ev : Event) : (emit ev s).probeCount = s.probeCount := rfl
@[simp] theorem emit_hbDeadline (ev : Event) : (emit ev s).hbDeadline = s.hbDeadline := rfl
@[simp] theorem emit_linkState (ev : Event) : (emit ev s).linkState = s.linkState := rfl
@[simp] theorem emit_running (ev : Event) : (emit ev s).running = s.running := rfl
@[simp] theorem emit_stopReq (ev : Event) : (emit ev s).stopReq = s.stopReq := rfl
@[simp] theorem emit_stopWaiting (ev : Event) : (emit ev s).stopWaiting = s.stopWaiting := rfl
@[simp] theorem emit_lastPoll (ev : Event) : (emit ev s).lastPoll = s.lastPoll := rfl
@[simp] theorem emit_fatalCause (ev : Event) : (emit ev s).fatalCause = s.fatalCause := rfl
@[simp] theorem emit_rxCbEn (ev : Event) : (emit ev s).rxCbEn = s.rxCbEn := rfl
@[simp] theorem emit_evtCbEn (ev : Event) : (emit ev s).evtCbEn = s.evtCbEn := rfl
@[simp] theorem emit_q (ev : Event) : (emit ev s).q = s.q := rfl
@[simp] theorem emit_rb (ev : Event) : (emit ev s).rb = s.rb := rfl
@[simp] theorem emit_rxState (ev : Event) : (emit ev s).rxState = s.rxState := rfl
@[simp] theorem emit_rxBuf (ev : Event) : (emit ev s).rxBuf = s.rxBuf := rfl
@[simp] theorem emit_rxNeed (ev : Event) : (emit ev s).rxNeed = s.rxNeed := rfl
@[simp] theorem emit_txLog (ev : Event) : (emit ev s).txLog = s.txLog := rfl
@[simp] theorem emit_evLog (ev : Event) : (emit ev s).evLog = if s.evtCbEn then s.evLog ++ [ev] else s.evLog := rfl
@[simp] theorem emit_msgLog (ev : Event) : (emit ev s).msgLog = s.msgLog := rfl
@[simp] theorem emit_cmdLog (ev : Event) : (emit ev s).cmdLog = s.cmdLog := rfl
@[simp] theorem emit_fault (ev : Event) : (emit ev s).fault = s.fault := rfl
@[simp] theorem emit_faultReason (ev : Event) : (emit ev s).faultReason = s.faultReason := rfl
@[simp] theorem emit_refused (ev : Event) : (emit ev s).refused = s.refused := rfl

/-! ## `Deliver` -/

@[simp] theorem deliver_cfg (m : List Byte) : (deliver m s).cfg = s.cfg := rfl
@[simp] theorem deliver_now (m : List Byte) : (deliver m s).now = s.now := rfl
@[simp] theorem deliver_sched (m : List Byte) : (deliver m s).sched = s.sched := rfl
@[simp] theorem deliver_turn (m : List Byte) : (deliver m s).turn = s.turn := rfl
@[simp] theorem deliver_rxDraw (m : List Byte) : (deliver m s).rxDraw = s.rxDraw := rfl
@[simp] theorem deliver_txDraw (m : List Byte) : (deliver m s).txDraw = s.txDraw := rfl
@[simp] theorem deliver_phase (m : List Byte) : (deliver m s).phase = s.phase := rfl
@[simp] theorem deliver_sendSeq (m : List Byte) : (deliver m s).sendSeq = s.sendSeq := rfl
@[simp] theorem deliver_recvSeq (m : List Byte) : (deliver m s).recvSeq = s.recvSeq := rfl
@[simp] theorem deliver_probeCount (m : List Byte) : (deliver m s).probeCount = s.probeCount := rfl
@[simp] theorem deliver_hbDeadline (m : List Byte) : (deliver m s).hbDeadline = s.hbDeadline := rfl
@[simp] theorem deliver_linkState (m : List Byte) : (deliver m s).linkState = s.linkState := rfl
@[simp] theorem deliver_running (m : List Byte) : (deliver m s).running = s.running := rfl
@[simp] theorem deliver_stopReq (m : List Byte) : (deliver m s).stopReq = s.stopReq := rfl
@[simp] theorem deliver_stopWaiting (m : List Byte) : (deliver m s).stopWaiting = s.stopWaiting := rfl
@[simp] theorem deliver_lastPoll (m : List Byte) : (deliver m s).lastPoll = s.lastPoll := rfl
@[simp] theorem deliver_fatalCause (m : List Byte) : (deliver m s).fatalCause = s.fatalCause := rfl
@[simp] theorem deliver_rxCbEn (m : List Byte) : (deliver m s).rxCbEn = s.rxCbEn := rfl
@[simp] theorem deliver_evtCbEn (m : List Byte) : (deliver m s).evtCbEn = s.evtCbEn := rfl
@[simp] theorem deliver_q (m : List Byte) : (deliver m s).q = s.q := rfl
@[simp] theorem deliver_rb (m : List Byte) : (deliver m s).rb = s.rb := rfl
@[simp] theorem deliver_rxState (m : List Byte) : (deliver m s).rxState = s.rxState := rfl
@[simp] theorem deliver_rxBuf (m : List Byte) : (deliver m s).rxBuf = s.rxBuf := rfl
@[simp] theorem deliver_rxNeed (m : List Byte) : (deliver m s).rxNeed = s.rxNeed := rfl
@[simp] theorem deliver_txLog (m : List Byte) : (deliver m s).txLog = s.txLog := rfl
@[simp] theorem deliver_evLog (m : List Byte) : (deliver m s).evLog = s.evLog := rfl
@[simp] theorem deliver_msgLog (m : List Byte) : (deliver m s).msgLog = if s.rxCbEn then s.msgLog ++ [m] else s.msgLog := rfl
@[simp] theorem deliver_cmdLog (m : List Byte) : (deliver m s).cmdLog = s.cmdLog := rfl
@[simp] theorem deliver_fault (m : List Byte) : (deliver m s).fault = s.fault := rfl
@[simp] theorem deliver_faultReason (m : List Byte) : (deliver m s).faultReason = s.faultReason := rfl
@[simp] theorem deliver_refused (m : List Byte) : (deliver m s).refused = s.refused := rfl

/-! ## The command log -/

@[simp] theorem logCmd_cfg (i : Instr) (st : CmdStatus) : (logCmd i st s).cfg = s.cfg := rfl
@[simp] theorem logCmd_now (i : Instr) (st : CmdStatus) : (logCmd i st s).now = s.now := rfl
@[simp] theorem logCmd_sched (i : Instr) (st : CmdStatus) : (logCmd i st s).sched = s.sched := rfl
@[simp] theorem logCmd_turn (i : Instr) (st : CmdStatus) : (logCmd i st s).turn = s.turn := rfl
@[simp] theorem logCmd_rxDraw (i : Instr) (st : CmdStatus) : (logCmd i st s).rxDraw = s.rxDraw := rfl
@[simp] theorem logCmd_txDraw (i : Instr) (st : CmdStatus) : (logCmd i st s).txDraw = s.txDraw := rfl
@[simp] theorem logCmd_phase (i : Instr) (st : CmdStatus) : (logCmd i st s).phase = s.phase := rfl
@[simp] theorem logCmd_sendSeq (i : Instr) (st : CmdStatus) : (logCmd i st s).sendSeq = s.sendSeq := rfl
@[simp] theorem logCmd_recvSeq (i : Instr) (st : CmdStatus) : (logCmd i st s).recvSeq = s.recvSeq := rfl
@[simp] theorem logCmd_probeCount (i : Instr) (st : CmdStatus) : (logCmd i st s).probeCount = s.probeCount := rfl
@[simp] theorem logCmd_hbDeadline (i : Instr) (st : CmdStatus) : (logCmd i st s).hbDeadline = s.hbDeadline := rfl
@[simp] theorem logCmd_linkState (i : Instr) (st : CmdStatus) : (logCmd i st s).linkState = s.linkState := rfl
@[simp] theorem logCmd_running (i : Instr) (st : CmdStatus) : (logCmd i st s).running = s.running := rfl
@[simp] theorem logCmd_stopReq (i : Instr) (st : CmdStatus) : (logCmd i st s).stopReq = s.stopReq := rfl
@[simp] theorem logCmd_stopWaiting (i : Instr) (st : CmdStatus) : (logCmd i st s).stopWaiting = s.stopWaiting := rfl
@[simp] theorem logCmd_lastPoll (i : Instr) (st : CmdStatus) : (logCmd i st s).lastPoll = s.lastPoll := rfl
@[simp] theorem logCmd_fatalCause (i : Instr) (st : CmdStatus) : (logCmd i st s).fatalCause = s.fatalCause := rfl
@[simp] theorem logCmd_rxCbEn (i : Instr) (st : CmdStatus) : (logCmd i st s).rxCbEn = s.rxCbEn := rfl
@[simp] theorem logCmd_evtCbEn (i : Instr) (st : CmdStatus) : (logCmd i st s).evtCbEn = s.evtCbEn := rfl
@[simp] theorem logCmd_q (i : Instr) (st : CmdStatus) : (logCmd i st s).q = s.q := rfl
@[simp] theorem logCmd_rb (i : Instr) (st : CmdStatus) : (logCmd i st s).rb = s.rb := rfl
@[simp] theorem logCmd_rxState (i : Instr) (st : CmdStatus) : (logCmd i st s).rxState = s.rxState := rfl
@[simp] theorem logCmd_rxBuf (i : Instr) (st : CmdStatus) : (logCmd i st s).rxBuf = s.rxBuf := rfl
@[simp] theorem logCmd_rxNeed (i : Instr) (st : CmdStatus) : (logCmd i st s).rxNeed = s.rxNeed := rfl
@[simp] theorem logCmd_txLog (i : Instr) (st : CmdStatus) : (logCmd i st s).txLog = s.txLog := rfl
@[simp] theorem logCmd_evLog (i : Instr) (st : CmdStatus) : (logCmd i st s).evLog = s.evLog := rfl
@[simp] theorem logCmd_msgLog (i : Instr) (st : CmdStatus) : (logCmd i st s).msgLog = s.msgLog := rfl
@[simp] theorem logCmd_cmdLog (i : Instr) (st : CmdStatus) : (logCmd i st s).cmdLog = s.cmdLog ++ [(i, st)] := rfl
@[simp] theorem logCmd_fault (i : Instr) (st : CmdStatus) : (logCmd i st s).fault = s.fault := rfl
@[simp] theorem logCmd_faultReason (i : Instr) (st : CmdStatus) : (logCmd i st s).faultReason = s.faultReason := rfl
@[simp] theorem logCmd_refused (i : Instr) (st : CmdStatus) : (logCmd i st s).refused = s.refused := rfl

/-! ## The transmit log -/

@[simp] theorem logTx_cfg (F : List Byte) : (logTx F s).cfg = s.cfg := rfl
@[simp] theorem logTx_now (F : List Byte) : (logTx F s).now = s.now := rfl
@[simp] theorem logTx_sched (F : List Byte) : (logTx F s).sched = s.sched := rfl
@[simp] theorem logTx_turn (F : List Byte) : (logTx F s).turn = s.turn := rfl
@[simp] theorem logTx_rxDraw (F : List Byte) : (logTx F s).rxDraw = s.rxDraw := rfl
@[simp] theorem logTx_txDraw (F : List Byte) : (logTx F s).txDraw = s.txDraw := rfl
@[simp] theorem logTx_phase (F : List Byte) : (logTx F s).phase = s.phase := rfl
@[simp] theorem logTx_sendSeq (F : List Byte) : (logTx F s).sendSeq = s.sendSeq := rfl
@[simp] theorem logTx_recvSeq (F : List Byte) : (logTx F s).recvSeq = s.recvSeq := rfl
@[simp] theorem logTx_probeCount (F : List Byte) : (logTx F s).probeCount = s.probeCount := rfl
@[simp] theorem logTx_hbDeadline (F : List Byte) : (logTx F s).hbDeadline = s.hbDeadline := rfl
@[simp] theorem logTx_linkState (F : List Byte) : (logTx F s).linkState = s.linkState := rfl
@[simp] theorem logTx_running (F : List Byte) : (logTx F s).running = s.running := rfl
@[simp] theorem logTx_stopReq (F : List Byte) : (logTx F s).stopReq = s.stopReq := rfl
@[simp] theorem logTx_stopWaiting (F : List Byte) : (logTx F s).stopWaiting = s.stopWaiting := rfl
@[simp] theorem logTx_lastPoll (F : List Byte) : (logTx F s).lastPoll = s.lastPoll := rfl
@[simp] theorem logTx_fatalCause (F : List Byte) : (logTx F s).fatalCause = s.fatalCause := rfl
@[simp] theorem logTx_rxCbEn (F : List Byte) : (logTx F s).rxCbEn = s.rxCbEn := rfl
@[simp] theorem logTx_evtCbEn (F : List Byte) : (logTx F s).evtCbEn = s.evtCbEn := rfl
@[simp] theorem logTx_q (F : List Byte) : (logTx F s).q = s.q := rfl
@[simp] theorem logTx_rb (F : List Byte) : (logTx F s).rb = s.rb := rfl
@[simp] theorem logTx_rxState (F : List Byte) : (logTx F s).rxState = s.rxState := rfl
@[simp] theorem logTx_rxBuf (F : List Byte) : (logTx F s).rxBuf = s.rxBuf := rfl
@[simp] theorem logTx_rxNeed (F : List Byte) : (logTx F s).rxNeed = s.rxNeed := rfl
@[simp] theorem logTx_txLog (F : List Byte) : (logTx F s).txLog = s.txLog ++ [(wireUnit s.cfg F, txWrite (wireUnit s.cfg F) s)] := rfl
@[simp] theorem logTx_evLog (F : List Byte) : (logTx F s).evLog = s.evLog := rfl
@[simp] theorem logTx_msgLog (F : List Byte) : (logTx F s).msgLog = s.msgLog := rfl
@[simp] theorem logTx_cmdLog (F : List Byte) : (logTx F s).cmdLog = s.cmdLog := rfl
@[simp] theorem logTx_fault (F : List Byte) : (logTx F s).fault = s.fault := rfl
@[simp] theorem logTx_faultReason (F : List Byte) : (logTx F s).faultReason = s.faultReason := rfl
@[simp] theorem logTx_refused (F : List Byte) : (logTx F s).refused = s.refused := rfl

/-! ## The liveness prefix -/

@[simp] theorem recognized_cfg : (recognized s).cfg = s.cfg := rfl
@[simp] theorem recognized_now : (recognized s).now = s.now := rfl
@[simp] theorem recognized_sched : (recognized s).sched = s.sched := rfl
@[simp] theorem recognized_turn : (recognized s).turn = s.turn := rfl
@[simp] theorem recognized_rxDraw : (recognized s).rxDraw = s.rxDraw := rfl
@[simp] theorem recognized_txDraw : (recognized s).txDraw = s.txDraw := rfl
@[simp] theorem recognized_phase : (recognized s).phase = s.phase := rfl
@[simp] theorem recognized_sendSeq : (recognized s).sendSeq = s.sendSeq := rfl
@[simp] theorem recognized_recvSeq : (recognized s).recvSeq = s.recvSeq := rfl
@[simp] theorem recognized_probeCount : (recognized s).probeCount = 0 := rfl
@[simp] theorem recognized_hbDeadline : (recognized s).hbDeadline = s.now + s.cfg.timeHeart := rfl
@[simp] theorem recognized_linkState : (recognized s).linkState = s.linkState := rfl
@[simp] theorem recognized_running : (recognized s).running = s.running := rfl
@[simp] theorem recognized_stopReq : (recognized s).stopReq = s.stopReq := rfl
@[simp] theorem recognized_stopWaiting : (recognized s).stopWaiting = s.stopWaiting := rfl
@[simp] theorem recognized_lastPoll : (recognized s).lastPoll = s.lastPoll := rfl
@[simp] theorem recognized_fatalCause : (recognized s).fatalCause = s.fatalCause := rfl
@[simp] theorem recognized_rxCbEn : (recognized s).rxCbEn = s.rxCbEn := rfl
@[simp] theorem recognized_evtCbEn : (recognized s).evtCbEn = s.evtCbEn := rfl
@[simp] theorem recognized_q : (recognized s).q = s.q := rfl
@[simp] theorem recognized_rb : (recognized s).rb = s.rb := rfl
@[simp] theorem recognized_rxState : (recognized s).rxState = s.rxState := rfl
@[simp] theorem recognized_rxBuf : (recognized s).rxBuf = s.rxBuf := rfl
@[simp] theorem recognized_rxNeed : (recognized s).rxNeed = s.rxNeed := rfl
@[simp] theorem recognized_txLog : (recognized s).txLog = s.txLog := rfl
@[simp] theorem recognized_evLog : (recognized s).evLog = s.evLog := rfl
@[simp] theorem recognized_msgLog : (recognized s).msgLog = s.msgLog := rfl
@[simp] theorem recognized_cmdLog : (recognized s).cmdLog = s.cmdLog := rfl
@[simp] theorem recognized_fault : (recognized s).fault = s.fault := rfl
@[simp] theorem recognized_faultReason : (recognized s).faultReason = s.faultReason := rfl
@[simp] theorem recognized_refused : (recognized s).refused = s.refused := rfl

/-! ## The end of a dispatch -/

@[simp] theorem endDispatch_cfg : (endDispatch s).cfg = s.cfg := rfl
@[simp] theorem endDispatch_now : (endDispatch s).now = s.now := rfl
@[simp] theorem endDispatch_sched : (endDispatch s).sched = s.sched := rfl
@[simp] theorem endDispatch_turn : (endDispatch s).turn = s.turn := rfl
@[simp] theorem endDispatch_rxDraw : (endDispatch s).rxDraw = s.rxDraw := rfl
@[simp] theorem endDispatch_txDraw : (endDispatch s).txDraw = s.txDraw := rfl
@[simp] theorem endDispatch_phase : (endDispatch s).phase = .tx := rfl
@[simp] theorem endDispatch_sendSeq : (endDispatch s).sendSeq = s.sendSeq := rfl
@[simp] theorem endDispatch_recvSeq : (endDispatch s).recvSeq = s.recvSeq := rfl
@[simp] theorem endDispatch_probeCount : (endDispatch s).probeCount = s.probeCount := rfl
@[simp] theorem endDispatch_hbDeadline : (endDispatch s).hbDeadline = s.hbDeadline := rfl
@[simp] theorem endDispatch_linkState : (endDispatch s).linkState = s.linkState := rfl
@[simp] theorem endDispatch_running : (endDispatch s).running = s.running := rfl
@[simp] theorem endDispatch_stopReq : (endDispatch s).stopReq = s.stopReq := rfl
@[simp] theorem endDispatch_stopWaiting : (endDispatch s).stopWaiting = s.stopWaiting := rfl
@[simp] theorem endDispatch_lastPoll : (endDispatch s).lastPoll = s.lastPoll := rfl
@[simp] theorem endDispatch_fatalCause : (endDispatch s).fatalCause = s.fatalCause := rfl
@[simp] theorem endDispatch_rxCbEn : (endDispatch s).rxCbEn = s.rxCbEn := rfl
@[simp] theorem endDispatch_evtCbEn : (endDispatch s).evtCbEn = s.evtCbEn := rfl
@[simp] theorem endDispatch_q : (endDispatch s).q = s.q := rfl
@[simp] theorem endDispatch_rb : (endDispatch s).rb = s.rb := rfl
@[simp] theorem endDispatch_rxState : (endDispatch s).rxState = s.rxState := rfl
@[simp] theorem endDispatch_rxBuf : (endDispatch s).rxBuf = s.rxBuf := rfl
@[simp] theorem endDispatch_rxNeed : (endDispatch s).rxNeed = s.rxNeed := rfl
@[simp] theorem endDispatch_txLog : (endDispatch s).txLog = s.txLog := rfl
@[simp] theorem endDispatch_evLog : (endDispatch s).evLog = s.evLog := rfl
@[simp] theorem endDispatch_msgLog : (endDispatch s).msgLog = s.msgLog := rfl
@[simp] theorem endDispatch_cmdLog : (endDispatch s).cmdLog = s.cmdLog := rfl
@[simp] theorem endDispatch_fault : (endDispatch s).fault = s.fault := rfl
@[simp] theorem endDispatch_faultReason : (endDispatch s).faultReason = s.faultReason := rfl
@[simp] theorem endDispatch_refused : (endDispatch s).refused = s.refused := rfl

/-! ## `Q.pop()` -/

@[simp] theorem popHead_cfg : (popHead s).cfg = s.cfg := rfl
@[simp] theorem popHead_now : (popHead s).now = s.now := rfl
@[simp] theorem popHead_sched : (popHead s).sched = s.sched := rfl
@[simp] theorem popHead_turn : (popHead s).turn = s.turn := rfl
@[simp] theorem popHead_rxDraw : (popHead s).rxDraw = s.rxDraw := rfl
@[simp] theorem popHead_txDraw : (popHead s).txDraw = s.txDraw := rfl
@[simp] theorem popHead_phase : (popHead s).phase = s.phase := rfl
@[simp] theorem popHead_sendSeq : (popHead s).sendSeq = s.sendSeq := rfl
@[simp] theorem popHead_recvSeq : (popHead s).recvSeq = s.recvSeq := rfl
@[simp] theorem popHead_probeCount : (popHead s).probeCount = s.probeCount := rfl
@[simp] theorem popHead_hbDeadline : (popHead s).hbDeadline = s.hbDeadline := rfl
@[simp] theorem popHead_linkState : (popHead s).linkState = s.linkState := rfl
@[simp] theorem popHead_running : (popHead s).running = s.running := rfl
@[simp] theorem popHead_stopReq : (popHead s).stopReq = s.stopReq := rfl
@[simp] theorem popHead_stopWaiting : (popHead s).stopWaiting = s.stopWaiting := rfl
@[simp] theorem popHead_lastPoll : (popHead s).lastPoll = s.lastPoll := rfl
@[simp] theorem popHead_fatalCause : (popHead s).fatalCause = s.fatalCause := rfl
@[simp] theorem popHead_rxCbEn : (popHead s).rxCbEn = s.rxCbEn := rfl
@[simp] theorem popHead_evtCbEn : (popHead s).evtCbEn = s.evtCbEn := rfl
@[simp] theorem popHead_q : (popHead s).q = s.q.tail := rfl
@[simp] theorem popHead_rb : (popHead s).rb = s.rb := rfl
@[simp] theorem popHead_rxState : (popHead s).rxState = s.rxState := rfl
@[simp] theorem popHead_rxBuf : (popHead s).rxBuf = s.rxBuf := rfl
@[simp] theorem popHead_rxNeed : (popHead s).rxNeed = s.rxNeed := rfl
@[simp] theorem popHead_txLog : (popHead s).txLog = s.txLog := rfl
@[simp] theorem popHead_evLog : (popHead s).evLog = s.evLog := rfl
@[simp] theorem popHead_msgLog : (popHead s).msgLog = s.msgLog := rfl
@[simp] theorem popHead_cmdLog : (popHead s).cmdLog = s.cmdLog := rfl
@[simp] theorem popHead_fault : (popHead s).fault = s.fault := rfl
@[simp] theorem popHead_faultReason : (popHead s).faultReason = s.faultReason := rfl
@[simp] theorem popHead_refused : (popHead s).refused = s.refused := rfl

/-! ## The head rewritten -/

@[simp] theorem setHead_cfg (h : Entry) : (setHead h s).cfg = s.cfg := rfl
@[simp] theorem setHead_now (h : Entry) : (setHead h s).now = s.now := rfl
@[simp] theorem setHead_sched (h : Entry) : (setHead h s).sched = s.sched := rfl
@[simp] theorem setHead_turn (h : Entry) : (setHead h s).turn = s.turn := rfl
@[simp] theorem setHead_rxDraw (h : Entry) : (setHead h s).rxDraw = s.rxDraw := rfl
@[simp] theorem setHead_txDraw (h : Entry) : (setHead h s).txDraw = s.txDraw := rfl
@[simp] theorem setHead_phase (h : Entry) : (setHead h s).phase = s.phase := rfl
@[simp] theorem setHead_sendSeq (h : Entry) : (setHead h s).sendSeq = s.sendSeq := rfl
@[simp] theorem setHead_recvSeq (h : Entry) : (setHead h s).recvSeq = s.recvSeq := rfl
@[simp] theorem setHead_probeCount (h : Entry) : (setHead h s).probeCount = s.probeCount := rfl
@[simp] theorem setHead_hbDeadline (h : Entry) : (setHead h s).hbDeadline = s.hbDeadline := rfl
@[simp] theorem setHead_linkState (h : Entry) : (setHead h s).linkState = s.linkState := rfl
@[simp] theorem setHead_running (h : Entry) : (setHead h s).running = s.running := rfl
@[simp] theorem setHead_stopReq (h : Entry) : (setHead h s).stopReq = s.stopReq := rfl
@[simp] theorem setHead_stopWaiting (h : Entry) : (setHead h s).stopWaiting = s.stopWaiting := rfl
@[simp] theorem setHead_lastPoll (h : Entry) : (setHead h s).lastPoll = s.lastPoll := rfl
@[simp] theorem setHead_fatalCause (h : Entry) : (setHead h s).fatalCause = s.fatalCause := rfl
@[simp] theorem setHead_rxCbEn (h : Entry) : (setHead h s).rxCbEn = s.rxCbEn := rfl
@[simp] theorem setHead_evtCbEn (h : Entry) : (setHead h s).evtCbEn = s.evtCbEn := rfl
@[simp] theorem setHead_q (h : Entry) : (setHead h s).q = h :: s.q.tail := rfl
@[simp] theorem setHead_rb (h : Entry) : (setHead h s).rb = s.rb := rfl
@[simp] theorem setHead_rxState (h : Entry) : (setHead h s).rxState = s.rxState := rfl
@[simp] theorem setHead_rxBuf (h : Entry) : (setHead h s).rxBuf = s.rxBuf := rfl
@[simp] theorem setHead_rxNeed (h : Entry) : (setHead h s).rxNeed = s.rxNeed := rfl
@[simp] theorem setHead_txLog (h : Entry) : (setHead h s).txLog = s.txLog := rfl
@[simp] theorem setHead_evLog (h : Entry) : (setHead h s).evLog = s.evLog := rfl
@[simp] theorem setHead_msgLog (h : Entry) : (setHead h s).msgLog = s.msgLog := rfl
@[simp] theorem setHead_cmdLog (h : Entry) : (setHead h s).cmdLog = s.cmdLog := rfl
@[simp] theorem setHead_fault (h : Entry) : (setHead h s).fault = s.fault := rfl
@[simp] theorem setHead_faultReason (h : Entry) : (setHead h s).faultReason = s.faultReason := rfl
@[simp] theorem setHead_refused (h : Entry) : (setHead h s).refused = s.refused := rfl

/-! ## The completion of CMD_STOP -/

@[simp] theorem clearBuffers_cfg : (clearBuffers s).cfg = s.cfg := rfl
@[simp] theorem clearBuffers_now : (clearBuffers s).now = s.now := rfl
@[simp] theorem clearBuffers_sched : (clearBuffers s).sched = s.sched := rfl
@[simp] theorem clearBuffers_turn : (clearBuffers s).turn = s.turn := rfl
@[simp] theorem clearBuffers_rxDraw : (clearBuffers s).rxDraw = s.rxDraw := rfl
@[simp] theorem clearBuffers_txDraw : (clearBuffers s).txDraw = s.txDraw := rfl
@[simp] theorem clearBuffers_phase : (clearBuffers s).phase = s.phase := rfl
@[simp] theorem clearBuffers_sendSeq : (clearBuffers s).sendSeq = s.sendSeq := rfl
@[simp] theorem clearBuffers_recvSeq : (clearBuffers s).recvSeq = s.recvSeq := rfl
@[simp] theorem clearBuffers_probeCount : (clearBuffers s).probeCount = s.probeCount := rfl
@[simp] theorem clearBuffers_hbDeadline : (clearBuffers s).hbDeadline = s.hbDeadline := rfl
@[simp] theorem clearBuffers_linkState : (clearBuffers s).linkState = s.linkState := rfl
@[simp] theorem clearBuffers_running : (clearBuffers s).running = s.running := rfl
@[simp] theorem clearBuffers_stopReq : (clearBuffers s).stopReq = s.stopReq := rfl
@[simp] theorem clearBuffers_stopWaiting : (clearBuffers s).stopWaiting = s.stopWaiting := rfl
@[simp] theorem clearBuffers_lastPoll : (clearBuffers s).lastPoll = s.lastPoll := rfl
@[simp] theorem clearBuffers_fatalCause : (clearBuffers s).fatalCause = s.fatalCause := rfl
@[simp] theorem clearBuffers_rxCbEn : (clearBuffers s).rxCbEn = s.rxCbEn := rfl
@[simp] theorem clearBuffers_evtCbEn : (clearBuffers s).evtCbEn = s.evtCbEn := rfl
@[simp] theorem clearBuffers_q : (clearBuffers s).q = [] := rfl
@[simp] theorem clearBuffers_rb : (clearBuffers s).rb = [] := rfl
@[simp] theorem clearBuffers_rxState : (clearBuffers s).rxState = s.rxState := rfl
@[simp] theorem clearBuffers_rxBuf : (clearBuffers s).rxBuf = s.rxBuf := rfl
@[simp] theorem clearBuffers_rxNeed : (clearBuffers s).rxNeed = s.rxNeed := rfl
@[simp] theorem clearBuffers_txLog : (clearBuffers s).txLog = s.txLog := rfl
@[simp] theorem clearBuffers_evLog : (clearBuffers s).evLog = s.evLog := rfl
@[simp] theorem clearBuffers_msgLog : (clearBuffers s).msgLog = s.msgLog := rfl
@[simp] theorem clearBuffers_cmdLog : (clearBuffers s).cmdLog = s.cmdLog := rfl
@[simp] theorem clearBuffers_fault : (clearBuffers s).fault = s.fault := rfl
@[simp] theorem clearBuffers_faultReason : (clearBuffers s).faultReason = s.faultReason := rfl
@[simp] theorem clearBuffers_refused : (clearBuffers s).refused = s.refused := rfl

/-! ## `discard` -/

@[simp] theorem discardPartial_cfg : (discardPartial s).cfg = s.cfg := rfl
@[simp] theorem discardPartial_now : (discardPartial s).now = s.now := rfl
@[simp] theorem discardPartial_sched : (discardPartial s).sched = s.sched := rfl
@[simp] theorem discardPartial_turn : (discardPartial s).turn = s.turn := rfl
@[simp] theorem discardPartial_rxDraw : (discardPartial s).rxDraw = s.rxDraw := rfl
@[simp] theorem discardPartial_txDraw : (discardPartial s).txDraw = s.txDraw := rfl
@[simp] theorem discardPartial_phase : (discardPartial s).phase = s.phase := rfl
@[simp] theorem discardPartial_sendSeq : (discardPartial s).sendSeq = s.sendSeq := rfl
@[simp] theorem discardPartial_recvSeq : (discardPartial s).recvSeq = s.recvSeq := rfl
@[simp] theorem discardPartial_probeCount : (discardPartial s).probeCount = s.probeCount := rfl
@[simp] theorem discardPartial_hbDeadline : (discardPartial s).hbDeadline = s.hbDeadline := rfl
@[simp] theorem discardPartial_linkState : (discardPartial s).linkState = s.linkState := rfl
@[simp] theorem discardPartial_running : (discardPartial s).running = s.running := rfl
@[simp] theorem discardPartial_stopReq : (discardPartial s).stopReq = s.stopReq := rfl
@[simp] theorem discardPartial_stopWaiting : (discardPartial s).stopWaiting = s.stopWaiting := rfl
@[simp] theorem discardPartial_lastPoll : (discardPartial s).lastPoll = s.lastPoll := rfl
@[simp] theorem discardPartial_fatalCause : (discardPartial s).fatalCause = s.fatalCause := rfl
@[simp] theorem discardPartial_rxCbEn : (discardPartial s).rxCbEn = s.rxCbEn := rfl
@[simp] theorem discardPartial_evtCbEn : (discardPartial s).evtCbEn = s.evtCbEn := rfl
@[simp] theorem discardPartial_q : (discardPartial s).q = s.q := rfl
@[simp] theorem discardPartial_rb : (discardPartial s).rb = s.rb := rfl
@[simp] theorem discardPartial_rxState : (discardPartial s).rxState = .hunt := rfl
@[simp] theorem discardPartial_rxBuf : (discardPartial s).rxBuf = [] := rfl
@[simp] theorem discardPartial_rxNeed : (discardPartial s).rxNeed = 0 := rfl
@[simp] theorem discardPartial_txLog : (discardPartial s).txLog = s.txLog := rfl
@[simp] theorem discardPartial_evLog : (discardPartial s).evLog = s.evLog := rfl
@[simp] theorem discardPartial_msgLog : (discardPartial s).msgLog = s.msgLog := rfl
@[simp] theorem discardPartial_cmdLog : (discardPartial s).cmdLog = s.cmdLog := rfl
@[simp] theorem discardPartial_fault : (discardPartial s).fault = s.fault := rfl
@[simp] theorem discardPartial_faultReason : (discardPartial s).faultReason = s.faultReason := rfl
@[simp] theorem discardPartial_refused : (discardPartial s).refused = s.refused := rfl

/-! ## `fault` -/

@[simp] theorem raiseFault_cfg (r : Fault) : (raiseFault r s).cfg = s.cfg := rfl
@[simp] theorem raiseFault_now (r : Fault) : (raiseFault r s).now = s.now := rfl
@[simp] theorem raiseFault_sched (r : Fault) : (raiseFault r s).sched = s.sched := rfl
@[simp] theorem raiseFault_turn (r : Fault) : (raiseFault r s).turn = s.turn := rfl
@[simp] theorem raiseFault_rxDraw (r : Fault) : (raiseFault r s).rxDraw = s.rxDraw := rfl
@[simp] theorem raiseFault_txDraw (r : Fault) : (raiseFault r s).txDraw = s.txDraw := rfl
@[simp] theorem raiseFault_phase (r : Fault) : (raiseFault r s).phase = s.phase := rfl
@[simp] theorem raiseFault_sendSeq (r : Fault) : (raiseFault r s).sendSeq = s.sendSeq := rfl
@[simp] theorem raiseFault_recvSeq (r : Fault) : (raiseFault r s).recvSeq = s.recvSeq := rfl
@[simp] theorem raiseFault_probeCount (r : Fault) : (raiseFault r s).probeCount = s.probeCount := rfl
@[simp] theorem raiseFault_hbDeadline (r : Fault) : (raiseFault r s).hbDeadline = s.hbDeadline := rfl
@[simp] theorem raiseFault_linkState (r : Fault) : (raiseFault r s).linkState = s.linkState := rfl
@[simp] theorem raiseFault_running (r : Fault) : (raiseFault r s).running = s.running := rfl
@[simp] theorem raiseFault_stopReq (r : Fault) : (raiseFault r s).stopReq = s.stopReq := rfl
@[simp] theorem raiseFault_stopWaiting (r : Fault) : (raiseFault r s).stopWaiting = s.stopWaiting := rfl
@[simp] theorem raiseFault_lastPoll (r : Fault) : (raiseFault r s).lastPoll = s.lastPoll := rfl
@[simp] theorem raiseFault_fatalCause (r : Fault) : (raiseFault r s).fatalCause = s.fatalCause := rfl
@[simp] theorem raiseFault_rxCbEn (r : Fault) : (raiseFault r s).rxCbEn = s.rxCbEn := rfl
@[simp] theorem raiseFault_evtCbEn (r : Fault) : (raiseFault r s).evtCbEn = s.evtCbEn := rfl
@[simp] theorem raiseFault_q (r : Fault) : (raiseFault r s).q = s.q := rfl
@[simp] theorem raiseFault_rb (r : Fault) : (raiseFault r s).rb = s.rb := rfl
@[simp] theorem raiseFault_rxState (r : Fault) : (raiseFault r s).rxState = s.rxState := rfl
@[simp] theorem raiseFault_rxBuf (r : Fault) : (raiseFault r s).rxBuf = s.rxBuf := rfl
@[simp] theorem raiseFault_rxNeed (r : Fault) : (raiseFault r s).rxNeed = s.rxNeed := rfl
@[simp] theorem raiseFault_txLog (r : Fault) : (raiseFault r s).txLog = s.txLog := rfl
@[simp] theorem raiseFault_evLog (r : Fault) : (raiseFault r s).evLog = s.evLog := rfl
@[simp] theorem raiseFault_msgLog (r : Fault) : (raiseFault r s).msgLog = s.msgLog := rfl
@[simp] theorem raiseFault_cmdLog (r : Fault) : (raiseFault r s).cmdLog = s.cmdLog := rfl
@[simp] theorem raiseFault_fault (r : Fault) : (raiseFault r s).fault = true := rfl
@[simp] theorem raiseFault_faultReason (r : Fault) : (raiseFault r s).faultReason = some r := rfl
@[simp] theorem raiseFault_refused (r : Fault) : (raiseFault r s).refused = s.refused := rfl

/-! ## A refusal -/

@[simp] theorem refuseCommand_cfg : (refuseCommand s).cfg = s.cfg := rfl
@[simp] theorem refuseCommand_now : (refuseCommand s).now = s.now := rfl
@[simp] theorem refuseCommand_sched : (refuseCommand s).sched = s.sched := rfl
@[simp] theorem refuseCommand_turn : (refuseCommand s).turn = s.turn := rfl
@[simp] theorem refuseCommand_rxDraw : (refuseCommand s).rxDraw = s.rxDraw := rfl
@[simp] theorem refuseCommand_txDraw : (refuseCommand s).txDraw = s.txDraw := rfl
@[simp] theorem refuseCommand_phase : (refuseCommand s).phase = s.phase := rfl
@[simp] theorem refuseCommand_sendSeq : (refuseCommand s).sendSeq = s.sendSeq := rfl
@[simp] theorem refuseCommand_recvSeq : (refuseCommand s).recvSeq = s.recvSeq := rfl
@[simp] theorem refuseCommand_probeCount : (refuseCommand s).probeCount = s.probeCount := rfl
@[simp] theorem refuseCommand_hbDeadline : (refuseCommand s).hbDeadline = s.hbDeadline := rfl
@[simp] theorem refuseCommand_linkState : (refuseCommand s).linkState = s.linkState := rfl
@[simp] theorem refuseCommand_running : (refuseCommand s).running = s.running := rfl
@[simp] theorem refuseCommand_stopReq : (refuseCommand s).stopReq = s.stopReq := rfl
@[simp] theorem refuseCommand_stopWaiting : (refuseCommand s).stopWaiting = s.stopWaiting := rfl
@[simp] theorem refuseCommand_lastPoll : (refuseCommand s).lastPoll = s.lastPoll := rfl
@[simp] theorem refuseCommand_fatalCause : (refuseCommand s).fatalCause = s.fatalCause := rfl
@[simp] theorem refuseCommand_rxCbEn : (refuseCommand s).rxCbEn = s.rxCbEn := rfl
@[simp] theorem refuseCommand_evtCbEn : (refuseCommand s).evtCbEn = s.evtCbEn := rfl
@[simp] theorem refuseCommand_q : (refuseCommand s).q = s.q := rfl
@[simp] theorem refuseCommand_rb : (refuseCommand s).rb = s.rb := rfl
@[simp] theorem refuseCommand_rxState : (refuseCommand s).rxState = s.rxState := rfl
@[simp] theorem refuseCommand_rxBuf : (refuseCommand s).rxBuf = s.rxBuf := rfl
@[simp] theorem refuseCommand_rxNeed : (refuseCommand s).rxNeed = s.rxNeed := rfl
@[simp] theorem refuseCommand_txLog : (refuseCommand s).txLog = s.txLog := rfl
@[simp] theorem refuseCommand_evLog : (refuseCommand s).evLog = s.evLog := rfl
@[simp] theorem refuseCommand_msgLog : (refuseCommand s).msgLog = s.msgLog := rfl
@[simp] theorem refuseCommand_cmdLog : (refuseCommand s).cmdLog = s.cmdLog := rfl
@[simp] theorem refuseCommand_fault : (refuseCommand s).fault = s.fault := rfl
@[simp] theorem refuseCommand_faultReason : (refuseCommand s).faultReason = s.faultReason := rfl
@[simp] theorem refuseCommand_refused : (refuseCommand s).refused = true := rfl

/-! ## `end_of_poll` -/

@[simp] theorem endOfPoll_cfg : (endOfPoll s).cfg = s.cfg := rfl
@[simp] theorem endOfPoll_now : (endOfPoll s).now = s.now := rfl
@[simp] theorem endOfPoll_sched : (endOfPoll s).sched = s.sched := rfl
@[simp] theorem endOfPoll_turn : (endOfPoll s).turn = s.turn := rfl
@[simp] theorem endOfPoll_rxDraw : (endOfPoll s).rxDraw = s.rxDraw := rfl
@[simp] theorem endOfPoll_txDraw : (endOfPoll s).txDraw = s.txDraw := rfl
@[simp] theorem endOfPoll_phase : (endOfPoll s).phase = .boundary := rfl
@[simp] theorem endOfPoll_sendSeq : (endOfPoll s).sendSeq = s.sendSeq := rfl
@[simp] theorem endOfPoll_recvSeq : (endOfPoll s).recvSeq = s.recvSeq := rfl
@[simp] theorem endOfPoll_probeCount : (endOfPoll s).probeCount = s.probeCount := rfl
@[simp] theorem endOfPoll_hbDeadline : (endOfPoll s).hbDeadline = s.hbDeadline := rfl
@[simp] theorem endOfPoll_linkState : (endOfPoll s).linkState = s.linkState := rfl
@[simp] theorem endOfPoll_running : (endOfPoll s).running = s.running := rfl
@[simp] theorem endOfPoll_stopReq : (endOfPoll s).stopReq = s.stopReq := rfl
@[simp] theorem endOfPoll_stopWaiting : (endOfPoll s).stopWaiting = s.stopWaiting := rfl
@[simp] theorem endOfPoll_lastPoll : (endOfPoll s).lastPoll = .ok := rfl
@[simp] theorem endOfPoll_fatalCause : (endOfPoll s).fatalCause = s.fatalCause := rfl
@[simp] theorem endOfPoll_rxCbEn : (endOfPoll s).rxCbEn = s.rxCbEn := rfl
@[simp] theorem endOfPoll_evtCbEn : (endOfPoll s).evtCbEn = s.evtCbEn := rfl
@[simp] theorem endOfPoll_q : (endOfPoll s).q = s.q := rfl
@[simp] theorem endOfPoll_rb : (endOfPoll s).rb = s.rb := rfl
@[simp] theorem endOfPoll_rxState : (endOfPoll s).rxState = s.rxState := rfl
@[simp] theorem endOfPoll_rxBuf : (endOfPoll s).rxBuf = s.rxBuf := rfl
@[simp] theorem endOfPoll_rxNeed : (endOfPoll s).rxNeed = s.rxNeed := rfl
@[simp] theorem endOfPoll_txLog : (endOfPoll s).txLog = s.txLog := rfl
@[simp] theorem endOfPoll_evLog : (endOfPoll s).evLog = s.evLog := rfl
@[simp] theorem endOfPoll_msgLog : (endOfPoll s).msgLog = s.msgLog := rfl
@[simp] theorem endOfPoll_cmdLog : (endOfPoll s).cmdLog = s.cmdLog := rfl
@[simp] theorem endOfPoll_fault : (endOfPoll s).fault = s.fault := rfl
@[simp] theorem endOfPoll_faultReason : (endOfPoll s).faultReason = s.faultReason := rfl
@[simp] theorem endOfPoll_refused : (endOfPoll s).refused = s.refused := rfl

/-! ## The fatal reset -/

@[simp] theorem fatalReset_cfg (c : FatalCause) : (fatalReset c s).cfg = s.cfg := rfl
@[simp] theorem fatalReset_now (c : FatalCause) : (fatalReset c s).now = s.now := rfl
@[simp] theorem fatalReset_sched (c : FatalCause) : (fatalReset c s).sched = s.sched := rfl
@[simp] theorem fatalReset_turn (c : FatalCause) : (fatalReset c s).turn = s.turn := rfl
@[simp] theorem fatalReset_rxDraw (c : FatalCause) : (fatalReset c s).rxDraw = s.rxDraw := rfl
@[simp] theorem fatalReset_txDraw (c : FatalCause) : (fatalReset c s).txDraw = s.txDraw := rfl
@[simp] theorem fatalReset_phase (c : FatalCause) : (fatalReset c s).phase = .boundary := rfl
@[simp] theorem fatalReset_sendSeq (c : FatalCause) : (fatalReset c s).sendSeq = 0x0001#16 := rfl
@[simp] theorem fatalReset_recvSeq (c : FatalCause) : (fatalReset c s).recvSeq = 0x0000#16 := rfl
@[simp] theorem fatalReset_probeCount (c : FatalCause) : (fatalReset c s).probeCount = 0 := rfl
@[simp] theorem fatalReset_hbDeadline (c : FatalCause) : (fatalReset c s).hbDeadline = s.now + s.cfg.timeHeart := rfl
@[simp] theorem fatalReset_linkState (c : FatalCause) : (fatalReset c s).linkState = .reset := rfl
@[simp] theorem fatalReset_running (c : FatalCause) : (fatalReset c s).running = s.running := rfl
@[simp] theorem fatalReset_stopReq (c : FatalCause) : (fatalReset c s).stopReq = s.stopReq := rfl
@[simp] theorem fatalReset_stopWaiting (c : FatalCause) : (fatalReset c s).stopWaiting = s.stopWaiting := rfl
@[simp] theorem fatalReset_lastPoll (c : FatalCause) : (fatalReset c s).lastPoll = .fail := rfl
@[simp] theorem fatalReset_fatalCause (c : FatalCause) : (fatalReset c s).fatalCause = c := rfl
@[simp] theorem fatalReset_rxCbEn (c : FatalCause) : (fatalReset c s).rxCbEn = s.rxCbEn := rfl
@[simp] theorem fatalReset_evtCbEn (c : FatalCause) : (fatalReset c s).evtCbEn = s.evtCbEn := rfl
@[simp] theorem fatalReset_q (c : FatalCause) : (fatalReset c s).q = [] := rfl
@[simp] theorem fatalReset_rb (c : FatalCause) : (fatalReset c s).rb = [] := rfl
@[simp] theorem fatalReset_rxState (c : FatalCause) : (fatalReset c s).rxState = .hunt := rfl
@[simp] theorem fatalReset_rxBuf (c : FatalCause) : (fatalReset c s).rxBuf = [] := rfl
@[simp] theorem fatalReset_rxNeed (c : FatalCause) : (fatalReset c s).rxNeed = 0 := rfl
@[simp] theorem fatalReset_txLog (c : FatalCause) : (fatalReset c s).txLog = s.txLog := rfl
@[simp] theorem fatalReset_evLog (c : FatalCause) : (fatalReset c s).evLog = if s.evtCbEn then s.evLog ++ [.linkBroken] else s.evLog := rfl
@[simp] theorem fatalReset_msgLog (c : FatalCause) : (fatalReset c s).msgLog = s.msgLog := rfl
@[simp] theorem fatalReset_cmdLog (c : FatalCause) : (fatalReset c s).cmdLog = s.cmdLog := rfl
@[simp] theorem fatalReset_fault (c : FatalCause) : (fatalReset c s).fault = s.fault := rfl
@[simp] theorem fatalReset_faultReason (c : FatalCause) : (fatalReset c s).faultReason = s.faultReason := rfl
@[simp] theorem fatalReset_refused (c : FatalCause) : (fatalReset c s).refused = s.refused := rfl

end Sys2Proof.Machine
end

