-- ==== Sys2Proof/Laws/Ops.lean ====
section
/-! SUPPORT. What each shared operation can do, said once: the send, the queue push, the queue tests, the dispatch shapes, and the fault wrapper. -/

namespace Sys2Proof.Machine

/-- A whole write: the unit is logged with OK and the rest of the rule runs. -/
theorem sendThen_ok {F : List Byte} {rest : State → State} {s : State} (h : s.txDraw = .count (F.length + 1)) :
    sendThen F rest s = rest { s with txLog := s.txLog ++ [(s.cfg.sync :: F, .ok)] } := by
  simp [sendThen, txWrite, wireUnit, h, logTx]

/-- A write that is not whole: the unit is logged with FAIL and the fatal reset runs. -/
theorem sendThen_fail {F : List Byte} {rest : State → State} {s : State} (h : s.txDraw ≠ .count (F.length + 1)) :
    sendThen F rest s = fatalReset .transportWrite { s with txLog := s.txLog ++ [(s.cfg.sync :: F, .fail)] } := by
  have e : txWrite (wireUnit s.cfg F) s = .fail := by
    unfold txWrite
    cases hd : s.txDraw <;> simp_all [wireUnit]
  simp [sendThen, e, logTx]
  rfl

/-- Every property of a send is one of its two ends. -/
theorem sendThen_induct {F : List Byte} {rest : State → State} {s : State} (P : State → Prop) (ok : P (rest (logTx F s)))
    (fail : P (fatalReset .transportWrite (logTx F s))) : P (sendThen F rest s) := by
  unfold sendThen
  split <;> assumption

theorem headConfirmedBy_iff (code : Byte) (s : State) : headConfirmedBy code s = true ↔ HeadIsSentControl code s := by
  unfold headConfirmedBy HeadIsSentControl
  cases s.q <;> simp

theorem headIsSentI_iff (s : State) : headIsSentI s = true ↔ HeadIsSentIFrame s := by
  unfold headIsSentI HeadIsSentIFrame
  cases s.q <;> simp

/-- Entries that fit go to the tail together. -/
theorem pushAll_fits {i : Instr} {es : List Entry} {s : State} (h : s.q.length + es.length ≤ s.cfg.queueDepth) :
    pushAll i es s = { s with q := s.q ++ es, cmdLog := s.cmdLog ++ [(i, .ok)] } := by
  simp only [pushAll, gt_iff_lt, Nat.not_lt.2 h, if_false]
  rfl

/-- Entries that do not fit leave the queue as it is. -/
theorem pushAll_full {i : Instr} {es : List Entry} {s : State} (h : s.cfg.queueDepth < s.q.length + es.length) :
    pushAll i es s = { s with cmdLog := s.cmdLog ++ [(i, .queueFull)] } := by
  simp only [pushAll, gt_iff_lt, h, if_true]
  rfl

/-- A push changes nothing but the queue and the command log. -/
theorem pushAll_frame (i : Instr) (es : List Entry) (s : State) :
    pushAll i es s = { s with q := (pushAll i es s).q, cmdLog := (pushAll i es s).cmdLog } := by
  by_cases h : s.q.length + es.length ≤ s.cfg.queueDepth
  · rw [pushAll_fits h]
  · rw [pushAll_full (Nat.not_le.1 h)]

/-- A fragment writes only the reassembly buffer and the message log. -/
theorem onFragment_eq (chunk : List Byte) (more : Bool) (s : State) :
    onFragment chunk more s = { s with
      rb := if more = true then s.rb ++ chunk else []
      msgLog := if more = false ∧ s.rxCbEn = true then s.msgLog ++ [s.rb ++ chunk] else s.msgLog } := by
  cases more <;> simp [onFragment, deliver]

theorem keepOnlyFault_of_no_fault {before t : State} (h : t.fault = false) : keepOnlyFault before (.next t) = .next t := by
  simp [keepOnlyFault, h]

theorem keepOnlyFault_of_fault {before t : State} (h : t.fault = true) :
    keepOnlyFault before (.next t) = .next { before with fault := true, faultReason := t.faultReason } := by
  simp [keepOnlyFault, h]

theorem confirmThen_of_match {code : Byte} {rest : State → State} {s : State} (h : headConfirmedBy code s = true) :
    confirmThen code rest s = endDispatch (rest (popHead (recognized s))) := by
  simp [confirmThen, h]

theorem confirmThen_of_no_match {code : Byte} {rest : State → State} {s : State} (h : headConfirmedBy code s = false) :
    confirmThen code rest s = endDispatch (recognized s) := by
  simp [confirmThen, h]

/-! ## The fields a fragment and a push leave as they are -/

variable (chunk : List Byte) (more : Bool) (i : Instr) (es : List Entry) (s : State)

@[simp] theorem onFragment_cfg : (onFragment chunk more s).cfg = s.cfg := by rw [onFragment_eq]
@[simp] theorem onFragment_now : (onFragment chunk more s).now = s.now := by rw [onFragment_eq]
@[simp] theorem onFragment_sched : (onFragment chunk more s).sched = s.sched := by rw [onFragment_eq]
@[simp] theorem onFragment_turn : (onFragment chunk more s).turn = s.turn := by rw [onFragment_eq]
@[simp] theorem onFragment_rxDraw : (onFragment chunk more s).rxDraw = s.rxDraw := by rw [onFragment_eq]
@[simp] theorem onFragment_txDraw : (onFragment chunk more s).txDraw = s.txDraw := by rw [onFragment_eq]
@[simp] theorem onFragment_phase : (onFragment chunk more s).phase = s.phase := by rw [onFragment_eq]
@[simp] theorem onFragment_sendSeq : (onFragment chunk more s).sendSeq = s.sendSeq := by rw [onFragment_eq]
@[simp] theorem onFragment_recvSeq : (onFragment chunk more s).recvSeq = s.recvSeq := by rw [onFragment_eq]
@[simp] theorem onFragment_probeCount : (onFragment chunk more s).probeCount = s.probeCount := by rw [onFragment_eq]
@[simp] theorem onFragment_hbDeadline : (onFragment chunk more s).hbDeadline = s.hbDeadline := by rw [onFragment_eq]
@[simp] theorem onFragment_linkState : (onFragment chunk more s).linkState = s.linkState := by rw [onFragment_eq]
@[simp] theorem onFragment_running : (onFragment chunk more s).running = s.running := by rw [onFragment_eq]
@[simp] theorem onFragment_stopReq : (onFragment chunk more s).stopReq = s.stopReq := by rw [onFragment_eq]
@[simp] theorem onFragment_stopWaiting : (onFragment chunk more s).stopWaiting = s.stopWaiting := by rw [onFragment_eq]
@[simp] theorem onFragment_lastPoll : (onFragment chunk more s).lastPoll = s.lastPoll := by rw [onFragment_eq]
@[simp] theorem onFragment_fatalCause : (onFragment chunk more s).fatalCause = s.fatalCause := by rw [onFragment_eq]
@[simp] theorem onFragment_rxCbEn : (onFragment chunk more s).rxCbEn = s.rxCbEn := by rw [onFragment_eq]
@[simp] theorem onFragment_evtCbEn : (onFragment chunk more s).evtCbEn = s.evtCbEn := by rw [onFragment_eq]
@[simp] theorem onFragment_q : (onFragment chunk more s).q = s.q := by rw [onFragment_eq]
@[simp] theorem onFragment_rxState : (onFragment chunk more s).rxState = s.rxState := by rw [onFragment_eq]
@[simp] theorem onFragment_rxBuf : (onFragment chunk more s).rxBuf = s.rxBuf := by rw [onFragment_eq]
@[simp] theorem onFragment_rxNeed : (onFragment chunk more s).rxNeed = s.rxNeed := by rw [onFragment_eq]
@[simp] theorem onFragment_txLog : (onFragment chunk more s).txLog = s.txLog := by rw [onFragment_eq]
@[simp] theorem onFragment_evLog : (onFragment chunk more s).evLog = s.evLog := by rw [onFragment_eq]
@[simp] theorem onFragment_cmdLog : (onFragment chunk more s).cmdLog = s.cmdLog := by rw [onFragment_eq]
@[simp] theorem onFragment_fault : (onFragment chunk more s).fault = s.fault := by rw [onFragment_eq]
@[simp] theorem onFragment_faultReason : (onFragment chunk more s).faultReason = s.faultReason := by rw [onFragment_eq]
@[simp] theorem onFragment_refused : (onFragment chunk more s).refused = s.refused := by rw [onFragment_eq]
@[simp] theorem pushAll_cfg : (pushAll i es s).cfg = s.cfg := by rw [pushAll_frame]
@[simp] theorem pushAll_now : (pushAll i es s).now = s.now := by rw [pushAll_frame]
@[simp] theorem pushAll_sched : (pushAll i es s).sched = s.sched := by rw [pushAll_frame]
@[simp] theorem pushAll_turn : (pushAll i es s).turn = s.turn := by rw [pushAll_frame]
@[simp] theorem pushAll_rxDraw : (pushAll i es s).rxDraw = s.rxDraw := by rw [pushAll_frame]
@[simp] theorem pushAll_txDraw : (pushAll i es s).txDraw = s.txDraw := by rw [pushAll_frame]
@[simp] theorem pushAll_phase : (pushAll i es s).phase = s.phase := by rw [pushAll_frame]
@[simp] theorem pushAll_sendSeq : (pushAll i es s).sendSeq = s.sendSeq := by rw [pushAll_frame]
@[simp] theorem pushAll_recvSeq : (pushAll i es s).recvSeq = s.recvSeq := by rw [pushAll_frame]
@[simp] theorem pushAll_probeCount : (pushAll i es s).probeCount = s.probeCount := by rw [pushAll_frame]
@[simp] theorem pushAll_hbDeadline : (pushAll i es s).hbDeadline = s.hbDeadline := by rw [pushAll_frame]
@[simp] theorem pushAll_linkState : (pushAll i es s).linkState = s.linkState := by rw [pushAll_frame]
@[simp] theorem pushAll_running : (pushAll i es s).running = s.running := by rw [pushAll_frame]
@[simp] theorem pushAll_stopReq : (pushAll i es s).stopReq = s.stopReq := by rw [pushAll_frame]
@[simp] theorem pushAll_stopWaiting : (pushAll i es s).stopWaiting = s.stopWaiting := by rw [pushAll_frame]
@[simp] theorem pushAll_lastPoll : (pushAll i es s).lastPoll = s.lastPoll := by rw [pushAll_frame]
@[simp] theorem pushAll_fatalCause : (pushAll i es s).fatalCause = s.fatalCause := by rw [pushAll_frame]
@[simp] theorem pushAll_rxCbEn : (pushAll i es s).rxCbEn = s.rxCbEn := by rw [pushAll_frame]
@[simp] theorem pushAll_evtCbEn : (pushAll i es s).evtCbEn = s.evtCbEn := by rw [pushAll_frame]
@[simp] theorem pushAll_rb : (pushAll i es s).rb = s.rb := by rw [pushAll_frame]
@[simp] theorem pushAll_rxState : (pushAll i es s).rxState = s.rxState := by rw [pushAll_frame]
@[simp] theorem pushAll_rxBuf : (pushAll i es s).rxBuf = s.rxBuf := by rw [pushAll_frame]
@[simp] theorem pushAll_rxNeed : (pushAll i es s).rxNeed = s.rxNeed := by rw [pushAll_frame]
@[simp] theorem pushAll_txLog : (pushAll i es s).txLog = s.txLog := by rw [pushAll_frame]
@[simp] theorem pushAll_evLog : (pushAll i es s).evLog = s.evLog := by rw [pushAll_frame]
@[simp] theorem pushAll_msgLog : (pushAll i es s).msgLog = s.msgLog := by rw [pushAll_frame]
@[simp] theorem pushAll_fault : (pushAll i es s).fault = s.fault := by rw [pushAll_frame]
@[simp] theorem pushAll_faultReason : (pushAll i es s).faultReason = s.faultReason := by rw [pushAll_frame]
@[simp] theorem pushAll_refused : (pushAll i es s).refused = s.refused := by rw [pushAll_frame]

end Sys2Proof.Machine
end

