-- ==== Sys2Proof/Laws/PerInstr.lean ====
section
/-! SUPPORT. One lemma per instruction: the side its encoding comes from and the byte it begins with (R90, R92, R95). -/

namespace Sys2Proof.Laws.EncodingForm

/-- A received frame begins with a type byte and is no command; a host command begins with a code that is not reserved. -/
def Statement (i : Instr) : Prop :=
  ∀ c : Config,
    match encode c i with
    | .frame F => i.isCommand = false ∧ F.head? ∈ [some c.iMark, some c.uMark, some c.aMark]
    | .command bytes => i.isCommand = true ∧ ∃ code operand, bytes = code :: operand ∧ 1 ≤ code.toNat ∧ code.toNat ≤ 8

theorem iFrame (seq : Half) (more : Bool) (payload : List Byte) : Statement (.iFrame seq more payload) := fun c => ⟨rfl, by simp [iFrameBytes]⟩

theorem aFrame : Statement (.aFrame) := fun c => ⟨rfl, by simp [aFrameBytes]⟩

theorem uStart : Statement (.uStart) := fun c => ⟨rfl, by simp [uFrame]⟩

theorem uStartCon : Statement (.uStartCon) := fun c => ⟨rfl, by simp [uFrame]⟩

theorem uReset : Statement (.uReset) := fun c => ⟨rfl, by simp [uFrame]⟩

theorem uResetCon : Statement (.uResetCon) := fun c => ⟨rfl, by simp [uFrame]⟩

theorem uStop : Statement (.uStop) := fun c => ⟨rfl, by simp [uFrame]⟩

theorem uStopCon : Statement (.uStopCon) := fun c => ⟨rfl, by simp [uFrame]⟩

theorem uTest : Statement (.uTest) := fun c => ⟨rfl, by simp [uFrame]⟩

theorem uTestCon : Statement (.uTestCon) := fun c => ⟨rfl, by simp [uFrame]⟩

theorem cmdStart : Statement (.cmdStart) := fun _ => ⟨rfl, _, _, rfl, by decide, by decide⟩

theorem cmdStop : Statement (.cmdStop) := fun _ => ⟨rfl, _, _, rfl, by decide, by decide⟩

theorem cmdBegin : Statement (.cmdBegin) := fun _ => ⟨rfl, _, _, rfl, by decide, by decide⟩

theorem cmdReset : Statement (.cmdReset) := fun _ => ⟨rfl, _, _, rfl, by decide, by decide⟩

theorem cmdEnd : Statement (.cmdEnd) := fun _ => ⟨rfl, _, _, rfl, by decide, by decide⟩

theorem cmdSend (m : List Byte) : Statement (.cmdSend m) := fun _ => ⟨rfl, _, _, rfl, by decide, by decide⟩

theorem cmdRegRx (operand : Byte) : Statement (.cmdRegRx operand) := fun _ => ⟨rfl, _, _, rfl, by decide, by decide⟩

theorem cmdRegEvt (operand : Byte) : Statement (.cmdRegEvt operand) := fun _ => ⟨rfl, _, _, rfl, by decide, by decide⟩

end Sys2Proof.Laws.EncodingForm
end

