-- ==== Sys2Proof/Laws/Step.lean ====
section
/-! SUPPORT. What a step can do, said once: the moves, the poll steps, the Framer's ends, and the received frames. -/

namespace Sys2Proof.Machine

/-- With unbounded time the time check is the identity. -/
theorem withinTime_of_unbounded {o : Outcome} (h : ∀ t, o = .next t → t.cfg.timeW = none) : withinTime o = o := by
  cases o with
  | next t => simp [withinTime, timesFit, fitsWidth, h t rfl]
  | fault r => rfl
  | refused r => rfl

theorem withinTime_next {o : Outcome} {t : State} (h : withinTime o = .next t) : o = .next t ∧ timesFit t = true := by
  cases o with
  | next u =>
    simp only [withinTime] at h
    split at h
    · injection h with h
      subst h
      exact ⟨rfl, ‹_›⟩
    · cases h
  | fault r => cases h
  | refused r => cases h

/-- A step with a listed move makes that move. -/
theorem step_of_sched {s : State} {a : Action} {rest : List Action} (h : s.sched = a :: rest) :
    step s = withinTime (act a { s with sched := rest }) := by
  simp [step, nextAction, afterDraw, h]

/-- The fields that drawing a move can change. -/
theorem afterDraw_eq (s : State) : ∃ sched turn, afterDraw s = { s with sched := sched, turn := turn } := by
  unfold afterDraw
  split
  · exact ⟨s.sched, s.turn + 1, rfl⟩
  · rename_i l _
    exact ⟨l, s.turn, rfl⟩

/-- Every instruction has a next state. -/
theorem exec_next (i : Instr) (s : State) : ∃ t, exec i s = .next t := by
  cases i <;> simp [exec, execIFrame, execAFrame, execUStart, execUStartCon, execUReset, execUResetCon, execUStop,
    execUStopCon, execUTest, execUTestCon, execCmdStart, execCmdStop, execCmdBegin, execCmdReset, execCmdEnd,
    execCmdSend, execCmdRegRx, execCmdRegEvt]
  split
  · split <;> simp
  · simp

/-- A received frame's next state, built from the shared operations. To show `P` of it, find an `M` of the states on the way: the prefix gives `M`, the operations keep it, and both ends of a dispatch lead from `M` to `P`. -/
theorem exec_frame_induct (M P : State → Prop) {i : Instr} {s t : State} (hi : i.isCommand = false) (h : exec i s = .next t)
    (prefix_ : M (recognized s))
    (log : ∀ F u, M u → (∃ j, encode s.cfg j = .frame F) → u.cfg = s.cfg → M (logTx F u))
    (event : ∀ e u, M u → M (emit e u))
    (link : ∀ l u, M u → M { u with linkState := l })
    (clear : ∀ F, (∃ j, encode s.cfg j = .frame F) → M { logTx F (recognized s) with recvSeq := 0, rb := [] })
    (pop : ∀ code, HeadIsSentControl code s → M (popHead (recognized s)))
    (restart : HeadIsSentControl s.cfg.codeReset s → M { popHead (recognized s) with sendSeq := 1#16 })
    (ack : HeadIsSentIFrame s → M { popHead (recognized s) with sendSeq := s.sendSeq + 1#16 })
    (accept : ∀ more p, s.rb.length + p.length ≤ s.cfg.reasmCapacity →
      M { onFragment p more (recognized s) with recvSeq := s.recvSeq + 1#16 })
    (fault_ : P (raiseFault .reasmOverflow s))
    (fatal : ∀ c u, M u → P (fatalReset c u))
    (finish : ∀ u, M u → P (endDispatch u)) : P t := by
  cases i <;> simp [Instr.isCommand] at hi <;>
    simp [exec, execIFrame, execAFrame, execUStart, execUStartCon, execUReset, execUResetCon, execUStop, execUStopCon,
      execUTest, execUTestCon, replyThen, confirmThen] at h
  case iFrame seq more p =>
    split at h
    · rename_i hs
      subst hs
      split at h
      · injection h with h
        subst h
        exact fault_
      · rename_i hc
        simp [fragmentOverflows] at hc
        injection h with h
        subst h
        have hcfg : ({ onFragment p more (recognized s) with recvSeq := s.recvSeq + 1#16 } : State).cfg = s.cfg := by
          rw [onFragment_eq]; rfl
        apply sendThen_induct
        · exact finish _ (log _ _ (accept _ _ hc) ⟨.aFrame, rfl⟩ hcfg)
        · exact fatal _ _ (log _ _ (accept _ _ hc) ⟨.aFrame, rfl⟩ hcfg)
    · injection h with h
      subst h
      exact fatal _ _ prefix_
  case aFrame =>
    subst h
    apply finish
    split
    · rename_i hm
      exact ack ((headIsSentI_iff s).1 hm)
    · exact prefix_
  case uStart =>
    subst h
    have hl := log (uFrame s.cfg s.cfg.codeStartCon) _ prefix_ ⟨.uStartCon, rfl⟩ rfl
    apply sendThen_induct
    · exact finish _ (link _ _ (event _ _ hl))
    · exact fatal _ _ hl
  case uStop =>
    subst h
    have hl := log (uFrame s.cfg s.cfg.codeStopCon) _ prefix_ ⟨.uStopCon, rfl⟩ rfl
    apply sendThen_induct
    · exact finish _ (link _ _ (event _ _ hl))
    · exact fatal _ _ hl
  case uTest =>
    subst h
    have hl := log (uFrame s.cfg s.cfg.codeTestCon) _ prefix_ ⟨.uTestCon, rfl⟩ rfl
    apply sendThen_induct
    · exact finish _ hl
    · exact fatal _ _ hl
  case uReset =>
    subst h
    have hl := log (uFrame s.cfg s.cfg.codeResetCon) _ prefix_ ⟨.uResetCon, rfl⟩ rfl
    apply sendThen_induct
    · exact finish _ (event _ _ (clear _ ⟨.uResetCon, rfl⟩))
    · exact fatal _ _ hl
  case uStartCon =>
    subst h
    apply finish
    split
    · rename_i hm
      exact link _ _ (event _ _ (pop _ ((headConfirmedBy_iff _ s).1 hm)))
    · exact prefix_
  case uStopCon =>
    subst h
    apply finish
    split
    · rename_i hm
      exact link _ _ (event _ _ (pop _ ((headConfirmedBy_iff _ s).1 hm)))
    · exact prefix_
  case uResetCon =>
    subst h
    apply finish
    split
    · rename_i hm
      exact event _ _ (restart ((headConfirmedBy_iff _ s).1 hm))
    · exact prefix_
  case uTestCon =>
    subst h
    apply finish
    split
    · rename_i hm
      exact pop _ ((headConfirmedBy_iff _ s).1 hm)
    · exact prefix_

/-- How the Framer takes a byte that completes no frame. -/
inductive FramerMove (v : State) : State → Prop where
  /-- Still hunting. -/
  | skip : v.rxState = .hunt → FramerMove v v
  /-- SYNC. -/
  | sync : v.rxState = .hunt → FramerMove v { v with rxBuf := [], rxState := .type }
  /-- An I-frame's type byte. -/
  | typeI : v.rxState = .type → FramerMove v { v with rxBuf := [v.cfg.iMark], rxNeed := 2, rxState := .len }
  /-- A U-frame's type byte. -/
  | typeU : v.rxState = .type → FramerMove v { v with rxBuf := [v.cfg.uMark], rxNeed := 3, rxState := .bodyU }
  /-- A byte of a field not yet complete. -/
  | more (b : Byte) : v.rxState ≠ .hunt → v.rxState ≠ .type → v.rxNeed - 1 ≠ 0 →
      FramerMove v { v with rxBuf := v.rxBuf ++ [b], rxNeed := v.rxNeed - 1 }
  /-- The first length copy is complete and its length is admitted. -/
  | body (b : Byte) : v.rxState = .len → v.rxNeed - 1 = 0 → lengthOf (halfAt (v.rxBuf ++ [b]) 1) ≤ v.cfg.rxMaxPayload →
      FramerMove v { v with
        rxBuf := v.rxBuf ++ [b], rxNeed := lengthOf (halfAt (v.rxBuf ++ [b]) 1) + 8, rxState := .bodyI }

/-- The byte read completes a frame that is recognized as this instruction: with the bytes kept so far, or an A-frame's type byte alone. -/
def FrameRead (v : State) (i : Instr) : Prop :=
  ∃ b, v.rxDraw = .byte b ∧ (decodeFrame v.cfg (v.rxBuf ++ [b]) = .ok i ∨ v.rxState = .type ∧ i = .aFrame)

/-- How a Framer step ends. -/
inductive FramerEnd (v : State) : State → Prop where
  /-- A byte is taken and phase 1 goes on. -/
  | move {t : State} : FramerMove v t → FramerEnd v t
  /-- A framing error within the frame. -/
  | discarded : FramerEnd v (discardPartial v)
  /-- A complete frame that fails validation. -/
  | dropped : FramerEnd v (dropFrame (discardPartial v))
  /-- No frame: the line is quiet. -/
  | quiet : v.rxState = .hunt → FramerEnd v { v with phase := .tx }
  /-- The read failed. -/
  | readFailed : FramerEnd v (fatalReset .transportRead v)
  /-- A recognized frame ran. -/
  | ran {i : Instr} {t : State} : FrameRead v i → exec i (discardPartial v) = .next t → t.fault = false → FramerEnd v t
  /-- A recognized frame faulted. -/
  | faulted {i : Instr} {t : State} : FrameRead v i → exec i (discardPartial v) = .next t → t.fault = true →
      FramerEnd v { v with fault := true, faultReason := t.faultReason }

theorem instrOfCode_isCommand {c : Config} {code : Byte} {i : Instr} (h : instrOfCode c code = .ok i) : i.isCommand = false := by
  unfold instrOfCode at h
  split_ifs at h <;> injection h with h <;> subst h <;> rfl

/-- A frame decodes to a frame instruction. -/
theorem decodeFrame_isCommand {c : Config} {F : List Byte} {i : Instr} (h : decodeFrame c F = .ok i) : i.isCommand = false := by
  unfold decodeFrame at h
  split at h
  · cases h
  · split_ifs at h
    · simp only [decodeI] at h
      split_ifs at h
      injection h with h
      subst h
      rfl
    · unfold decodeU at h
      split at h
      · split_ifs at h
        exact instrOfCode_isCommand h
      · cases h
    · unfold decodeA at h
      split_ifs at h
      injection h with h
      subst h
      rfl

/-- A command's bytes decode to a command instruction. -/
theorem decodeCommand_isCommand {l : List Byte} {i : Instr} (h : decodeCommand l = .ok i) : i.isCommand = true := by
  unfold decodeCommand at h
  split at h
  · cases h
  · split at h
    all_goals first
      | (injection h with h; subst h; rfl)
      | (split_ifs at h)

/-- A one-byte frame can only be an A-frame. -/
theorem decodeFrame_singleton {c : Config} {b : Byte} {i : Instr} (h : decodeFrame c [b] = .ok i) : i = .aFrame := by
  unfold decodeFrame at h
  simp only at h
  split_ifs at h
  · simp only [decodeI] at h
    split_ifs at h
    simp_all
  · simp [decodeU] at h
  · simp only [decodeA] at h
    injection h with h
    exact h.symm

/-- A frame that was read is no command. -/
theorem FrameRead.isCommand {v : State} {i : Instr} (h : FrameRead v i) : i.isCommand = false := by
  obtain ⟨b, -, hd | ⟨-, rfl⟩⟩ := h
  · exact decodeFrame_isCommand hd
  · rfl

/-- How a complete frame ends, given what its bytes are. -/
theorem complete_end {F : List Byte} {v t : State} (hF : ∀ i, decodeFrame v.cfg F = .ok i → FrameRead v i)
    (h : complete F v = .next t) : FramerEnd v t := by
  unfold complete at h
  split at h
  · rename_i i hd
    have hc := hF i hd
    obtain ⟨u, hu⟩ := exec_next i (discardPartial v)
    rw [hu] at h
    cases hf : u.fault with
    | false =>
      rw [keepOnlyFault_of_no_fault hf] at h
      injection h with h
      subst h
      exact .ran hc hu hf
    | true =>
      rw [keepOnlyFault_of_fault hf] at h
      injection h with h
      subst h
      exact .faulted hc hu hf
  · injection h with h
    subst h
    exact .dropped

/-- Every Framer step has one of these ends. -/
theorem framerStep_end {v t : State} (h : framerStep v = .next t) : FramerEnd v t := by
  unfold framerStep at h
  split at h
  · rename_i b hb
    unfold framerByte at h
    split at h <;> rename_i hx
    · injection h with h
      subst h
      unfold huntByte
      split
      · exact .move (.sync hx)
      · exact .move (.skip hx)
    · unfold typeByte at h
      split_ifs at h with h1 h2 h3
      · injection h with h
        subst h h1
        exact .move (.typeI hx)
      · injection h with h
        subst h h2
        exact .move (.typeU hx)
      · exact complete_end (fun i hd => ⟨b, hb, .inr ⟨hx, decodeFrame_singleton hd⟩⟩) h
      · injection h with h
        subst h
        exact .discarded
    · injection h with h
      subst h
      simp only [lenByte]
      split_ifs with h1 h2
      · exact .discarded
      · exact .move (.body b hx h1 (Nat.not_lt.1 h2))
      · exact .move (.more b (by simp [hx]) (by simp [hx]) h1)
    all_goals
      unfold bodyByte at h
      split_ifs at h with h1
      · exact complete_end (fun i hd => ⟨b, hb, .inl hd⟩) h
      · injection h with h
        subst h
        exact .move (.more b (by simp [hx]) (by simp [hx]) h1)
  · injection h with h
    subst h
    unfold framerTimeout
    split
    · exact .quiet ‹_›
    all_goals exact .discarded
  · injection h with h
    subst h
    exact .readFailed

/-- How a move ends. -/
inductive MoveEnd (u : State) : State → Prop where
  /-- A command ran. -/
  | command {i : Instr} {t : State} : i.isCommand = true → exec i u = .next t → MoveEnd u t
  /-- A command was refused. -/
  | refused : MoveEnd u (refuseCommand u)
  /-- The ENGINE is disabled. -/
  | disabled : (u.running = false ∨ u.fault = true) → MoveEnd u u
  /-- The CLOCK advanced. -/
  | clock (ticks : Nat) : MoveEnd u { u with now := u.now + ticks }
  /-- The boundary step. -/
  | boundary (r : ReadAnswer) (w : WriteResult) : u.running = true → u.fault = false → u.phase = .boundary →
      MoveEnd u (boundaryStep { u with rxDraw := r, txDraw := w })
  /-- A Framer step. -/
  | rx (r : ReadAnswer) (w : WriteResult) {t : State} : u.running = true → u.fault = false → u.phase = .rx →
      FramerEnd { u with rxDraw := r, txDraw := w } t → MoveEnd u t
  /-- The transmit step. -/
  | tx (r : ReadAnswer) (w : WriteResult) : u.running = true → u.fault = false → u.phase = .tx →
      MoveEnd u (txStep { u with rxDraw := r, txDraw := w })
  /-- The heartbeat step. -/
  | hb (r : ReadAnswer) (w : WriteResult) : u.running = true → u.fault = false → u.phase = .hb →
      MoveEnd u (hbStep { u with rxDraw := r, txDraw := w })
  /-- The retransmit step. -/
  | rt (r : ReadAnswer) (w : WriteResult) : u.running = true → u.fault = false → u.phase = .rt →
      MoveEnd u (rtStep { u with rxDraw := r, txDraw := w })

/-- Every move has one of these ends. -/
theorem act_end {a : Action} {u t : State} (h : act a u = .next t) : MoveEnd u t := by
  cases a with
  | host bytes =>
    simp only [act, hostStep] at h
    split at h
    · rename_i i hd
      exact .command (decodeCommand_isCommand hd) h
    · injection h with h
      subst h
      exact .refused
  | clock d =>
    injection h with h
    subst h
    exact .clock d
  | engine r w =>
    simp only [act] at h
    split_ifs at h with he
    · simp [engineEnabled] at he
      unfold engineStep at h
      split at h
      · injection h with h
        subst h
        exact .boundary r w he.1 he.2 ‹_›
      · exact .rx r w he.1 he.2 ‹_› (framerStep_end h)
      all_goals injection h with h
      all_goals subst h
      · exact .tx r w he.1 he.2 ‹_›
      · exact .hb r w he.1 he.2 ‹_›
      · exact .rt r w he.1 he.2 ‹_›
    · injection h with h
      subst h
      simp [engineEnabled] at he
      refine .disabled ?_
      cases hr : u.running <;> simp_all

/-- What a step can do: the move drawn ends in one of the ways above, and the times of the next state fit. -/
theorem step_end {s t : State} (h : step s = .next t) : MoveEnd (afterDraw s) t ∧ timesFit t = true := by
  obtain ⟨h, hf⟩ := withinTime_next h
  exact ⟨act_end h, hf⟩

end Sys2Proof.Machine
end

