-- ==== Sys2Proof/Tests/Slice0.lean ====
section
/-! SUPPORT. The model's own tests, each on one step or one encoding, with expected values from `spec/95_test_vectors.md` (its vector's name in the test's docstring), and a witness for the hypotheses of every statement. -/

namespace Sys2Proof.Tests

open Sys2Proof Sys2Proof.Machine

/-! ## Well-formedness: each check refuses an ill-formed term -/

/-- REF meets R7. -/
theorem test_ref_wellFormed : Config.ref.WellFormed = true := by decide
/-- R7(a). -/
theorem test_equal_marks_refused : ({ Config.ref with uMark := Config.ref.sync } : Config).WellFormed = false := by decide
/-- R7(b), against a fixed code. -/
theorem test_equal_codes_refused : ({ Config.ref with codeStop := 0x40#8 } : Config).WellFormed = false := by decide
/-- R7(c), both bounds. -/
theorem test_tx_payload_refused :
    ({ Config.ref with maxPayload := 0 } : Config).WellFormed = false ∧
      ({ Config.ref with maxPayload := 0x8000 } : Config).WellFormed = false := by decide
/-- R7(d), both conditions. -/
theorem test_rx_payload_refused :
    ({ Config.ref with rxMaxPayload := 65 } : Config).WellFormed = false ∧
      ({ Config.ref with rxMaxPayload := 0x8000, reasmCapacity := 0x9000 } : Config).WellFormed = false := by decide
/-- R7(e). -/
theorem test_empty_queue_refused : ({ Config.ref with queueDepth := 0 } : Config).WellFormed = false := by decide
/-- R7(f). -/
theorem test_timeouts_refused : ({ Config.ref with tChar := 1 } : Config).WellFormed = false := by decide
/-- The range of P13. -/
theorem test_ticks_refused : ({ Config.ref with ticksPerSecond := 0 } : Config).WellFormed = false := by decide
/-- R8, D1: each duration is its seconds times TICKS_PER_SECOND. -/
theorem test_durations_refused :
    ({ Config.ref with timeAlive := 7 } : Config).WellFormed = false ∧
      ({ Config.ref with timeHeart := 20001 } : Config).WellFormed = false ∧
      ({ Config.ref with ticksPerSecond := 2 } : Config).WellFormed = false ∧
      ({ Config.ref with ticksPerSecond := 2, timeAlive := 30, timeHeart := 40 } : Config).WellFormed = true := by decide
/-- R126: a received payload within RX_MAX_PAYLOAD. -/
theorem test_long_payload_refused :
    (Instr.iFrame 1#16 false [1#8, 2#8, 3#8, 4#8]).WellFormed Config.ref = true ∧
      (Instr.iFrame 1#16 false [1#8, 2#8, 3#8, 4#8, 5#8]).WellFormed Config.ref = false := by decide

/-! ## Checksums (95_test_vectors.md 0.1) -/

/-- The eight control codes' constants. -/
theorem test_crc8_codes :
    [0x04#8, 0x08#8, 0x40#8, 0x80#8, 0x10#8, 0x20#8, 0x01#8, 0x02#8].map crc8Ref
      = [0x1C#8, 0x38#8, 0xC7#8, 0x89#8, 0x70#8, 0xE0#8, 0x07#8, 0x0E#8] := by decide +kernel
/-- More constants, the ends of the byte range among them. -/
theorem test_crc8_bytes : [0x00#8, 0x03#8, 0xFF#8].map crc8Ref = [0x00#8, 0x09#8, 0xF3#8] := by decide +kernel
/-- The CRC-8 check value of R15, over the ASCII bytes of the digits. -/
theorem test_crc8_check :
    [0x31#8, 0x32#8, 0x33#8, 0x34#8, 0x35#8, 0x36#8, 0x37#8, 0x38#8, 0x39#8].foldl (fun c b => crc8Ref (c ^^^ b)) 0#8 = 0xF4#8 := by
  decide +kernel
/-- The CRC-16 check value of R15. -/
theorem test_crc16_check :
    crc16Ref [0x31#8, 0x32#8, 0x33#8, 0x34#8, 0x35#8, 0x36#8, 0x37#8, 0x38#8, 0x39#8] = 0x4B37#16 := by decide +kernel
/-- CRC-16 fields of the vectors. -/
theorem test_crc16_fields :
    crc16Ref [0x01#8, 0x00#8, 0x41#8] = 0x30E0#16 ∧ crc16Ref [0x01#8, 0x00#8] = 0x2000#16 ∧
      crc16Ref [0x04#8, 0x00#8, 0x0D#8, 0x0E#8] = 0x4084#16 := by decide +kernel

/-! ## Decoding: a word written out for every constructor -/

/-- R85: the worked I-frame. -/
theorem test_decode_i :
    decodeFrame Config.ref [0x68#8, 0x01#8, 0x00#8, 0x01#8, 0x00#8, 0x68#8, 0x01#8, 0x00#8, 0x41#8, 0xE0#8, 0x30#8, 0x16#8]
      = .ok (.iFrame 0x0001#16 false [0x41#8]) := by decide +kernel
/-- W5: an I-frame with the more flag. -/
theorem test_decode_i_more :
    decodeFrame Config.ref [0x68#8, 0x04#8, 0x80#8, 0x04#8, 0x80#8, 0x68#8, 0x01#8, 0x00#8, 0x01#8, 0x02#8, 0x03#8, 0x04#8,
        0xA0#8, 0xC5#8, 0x16#8]
      = .ok (.iFrame 0x0001#16 true [0x01#8, 0x02#8, 0x03#8, 0x04#8]) := by decide +kernel
/-- F13: an empty payload. -/
theorem test_decode_i_empty :
    decodeFrame Config.ref [0x68#8, 0x00#8, 0x00#8, 0x00#8, 0x00#8, 0x68#8, 0x01#8, 0x00#8, 0x00#8, 0x20#8, 0x16#8]
      = .ok (.iFrame 0x0001#16 false []) := by decide +kernel
/-- F14: copies that differ in bit 15 only. -/
theorem test_decode_i_copies :
    decodeFrame Config.ref [0x68#8, 0x01#8, 0x80#8, 0x01#8, 0x00#8, 0x68#8, 0x01#8, 0x00#8, 0x41#8, 0xE0#8, 0x30#8, 0x16#8]
      = .reject .lenMismatch := by decide +kernel
/-- R89. -/
theorem test_decode_a : decodeFrame Config.ref [0xE5#8] = .ok .aFrame := by decide
/-- R87: the eight U-frames, with the table's constants. -/
theorem test_decode_u :
    decodeFrame Config.ref [0x10#8, 0x04#8, 0x1C#8, 0x16#8] = .ok .uStart ∧
      decodeFrame Config.ref [0x10#8, 0x08#8, 0x38#8, 0x16#8] = .ok .uStartCon ∧
      decodeFrame Config.ref [0x10#8, 0x01#8, 0x07#8, 0x16#8] = .ok .uReset ∧
      decodeFrame Config.ref [0x10#8, 0x02#8, 0x0E#8, 0x16#8] = .ok .uResetCon ∧
      decodeFrame Config.ref [0x10#8, 0x10#8, 0x70#8, 0x16#8] = .ok .uStop ∧
      decodeFrame Config.ref [0x10#8, 0x20#8, 0xE0#8, 0x16#8] = .ok .uStopCon ∧
      decodeFrame Config.ref [0x10#8, 0x40#8, 0xC7#8, 0x16#8] = .ok .uTest ∧
      decodeFrame Config.ref [0x10#8, 0x80#8, 0x89#8, 0x16#8] = .ok .uTestCon := by decide +kernel
/-- R122's example, F18, and a code outside the eight with its right checksum. -/
theorem test_decode_u_rejects :
    decodeFrame Config.ref [0x10#8, 0x04#8, 0x1D#8, 0x16#8] = .reject .crc8 ∧
      decodeFrame Config.ref [0x10#8, 0x04#8, 0x1C#8, 0x17#8] = .reject .badMarker ∧
      decodeFrame Config.ref [0x10#8, 0x03#8, 0x09#8, 0x16#8] = .reject .unknownCode := by decide +kernel
/-- R92: the eight commands. -/
theorem test_decode_commands :
    [decodeCommand [0x01#8], decodeCommand [0x02#8], decodeCommand [0x03#8], decodeCommand [0x04#8], decodeCommand [0x05#8],
        decodeCommand [0x06#8, 0x48#8, 0x49#8], decodeCommand [0x07#8, 0x01#8], decodeCommand [0x08#8, 0xFE#8]]
      = [.ok .cmdStart, .ok .cmdStop, .ok .cmdBegin, .ok .cmdReset, .ok .cmdEnd,
        .ok (.cmdSend [0x48#8, 0x49#8]), .ok (.cmdRegRx 0x01#8), .ok (.cmdRegEvt 0xFE#8)] := by decide
/-- S8: the reserved codes at their boundaries. -/
theorem test_decode_reserved :
    [decodeCommand [0x00#8], decodeCommand [0x09#8], decodeCommand [0xFF#8]]
      = [.reject .reservedCommand, .reject .reservedCommand, .reject .reservedCommand] := by decide
/-- The opcode table's words: a type byte, a code byte, a command code; and where a code byte and a command code are one byte, the command (log entry 6). -/
theorem test_table_words :
    [decodeTableWord 8 0x68, decodeTableWord 8 0xE5, decodeTableWord 8 0x10, decodeTableWord 8 0x40, decodeTableWord 8 0x06,
        decodeTableWord 8 0x01]
      = [some (.iFrame 0#16 false []), some .aFrame, some .uStop, some .uTest, some (.cmdSend []), some .cmdStart] := by decide +kernel

/-! ## One step on small states -/

/-- B0 of the vectors at `now = 1000`, with a write answer that is whole for a U-frame. -/
def b0 : State :=
  { State.reset with
    now := 1000, running := true, rxCbEn := true, evtCbEn := true, hbDeadline := 20000, phase := .rx, txDraw := .count 5 }

/-- A Sent U-frame entry of a code, sent at 500. -/
def sentU (code : Byte) : Entry := ⟨.ku, uFrame Config.ref code, .sent, 500⟩

/-- A Sent I-frame entry, sent at 500. -/
def sentI : Entry := ⟨.ki, iFrameBytes Config.ref 0x0001#16 false [0x41#8], .sent, 500⟩

/-- The state an outcome goes on with. -/
def nextOf (o : Outcome) (s : State) : State :=
  match o with
  | .next t => t
  | .fault _ => s
  | .refused _ => s

/-- The state after an instruction. -/
def after (i : Instr) (s : State) : State := nextOf (exec i s) s

/-- The state after one ENGINE step with these answers. -/
def engine (r : ReadAnswer) (w : WriteResult) (s : State) : State := nextOf (step { s with sched := [.engine r w] }) s

/-- U1. -/
theorem test_uStart :
    let t := after .uStart b0
    t.txLog = [([0xA5#8, 0x10#8, 0x08#8, 0x38#8, 0x16#8], .ok)] ∧ t.evLog = [.started] ∧ t.linkState = .active ∧
      t.hbDeadline = 21000 ∧ t.phase = .tx := by decide +kernel
/-- U11: a failing reply emits no event but the link-broken one. -/
theorem test_uStart_fails :
    let t := after .uStart { b0 with txDraw := .failure }
    t.txLog = [([0xA5#8, 0x10#8, 0x08#8, 0x38#8, 0x16#8], .fail)] ∧ t.evLog = [.linkBroken] ∧
      t.fatalCause = .transportWrite ∧ t.lastPoll = .fail ∧ t.phase = .boundary := by decide +kernel
/-- U2. -/
theorem test_uStartCon :
    let t := after .uStartCon { b0 with q := [sentU 0x04#8] }
    t.q = [] ∧ t.evLog = [.startConfirmed] ∧ t.linkState = .active := by decide +kernel
/-- U4: an Idle head does not match. -/
theorem test_uStartCon_idle :
    let t := after .uStartCon { b0 with q := [prepareUFrame Config.ref 0x04#8] }
    t.q.length = 1 ∧ t.evLog = [] ∧ t.linkState = .idle ∧ t.hbDeadline = 21000 := by decide +kernel
/-- U5. -/
theorem test_uReset :
    let t := after .uReset { b0 with recvSeq := 7#16, rb := [1#8, 2#8] }
    t.recvSeq = 0#16 ∧ t.rb = [] ∧ t.evLog = [.reset] ∧ t.sendSeq = 1#16 ∧ t.linkState = .idle := by decide +kernel
/-- U6. -/
theorem test_uResetCon :
    let t := after .uResetCon { b0 with sendSeq := 9#16, q := [sentU 0x01#8] }
    t.q = [] ∧ t.sendSeq = 1#16 ∧ t.evLog = [.resetConfirmed] := by decide +kernel
/-- U7. -/
theorem test_uStop :
    let t := after .uStop b0
    t.txLog = [([0xA5#8, 0x10#8, 0x20#8, 0xE0#8, 0x16#8], .ok)] ∧ t.evLog = [.stopped] ∧ t.linkState = .stopped ∧
      t.running = true := by decide +kernel
/-- U8. -/
theorem test_uStopCon :
    let t := after .uStopCon { b0 with q := [sentU 0x10#8] }
    t.q = [] ∧ t.evLog = [.stopConfirmed] ∧ t.linkState = .stopped := by decide +kernel
/-- U12: the wrong partner. -/
theorem test_uStopCon_wrong_partner :
    let t := after .uStopCon { b0 with q := [sentU 0x04#8] }
    t.q = [sentU 0x04#8] ∧ t.evLog = [] ∧ t.linkState = .idle := by decide +kernel
/-- U9. -/
theorem test_uTest :
    let t := after .uTest b0
    t.txLog = [([0xA5#8, 0x10#8, 0x80#8, 0x89#8, 0x16#8], .ok)] ∧ t.evLog = [] ∧ t.linkState = .idle := by decide +kernel
/-- U10. -/
theorem test_uTestCon :
    let t := after .uTestCon { b0 with probeCount := 2 }
    t.probeCount = 0 ∧ t.hbDeadline = 21000 := by decide +kernel
/-- I6: the last fragment delivers the joined message. -/
theorem test_iFrame :
    let t := after (.iFrame 2#16 false [5#8]) { b0 with recvSeq := 1#16, rb := [1#8, 2#8, 3#8, 4#8], txDraw := .count 2 }
    t.recvSeq = 2#16 ∧ t.msgLog = [[1#8, 2#8, 3#8, 4#8, 5#8]] ∧ t.rb = [] ∧ t.txLog = [([0xA5#8, 0xE5#8], .ok)] := by
  decide +kernel
/-- I4: acceptance wraps. -/
theorem test_iFrame_wraps :
    let t := after (.iFrame 0#16 false [0x42#8]) { b0 with recvSeq := 0xFFFF#16, txDraw := .count 2 }
    t.recvSeq = 0#16 ∧ t.msgLog = [[0x42#8]] := by decide +kernel
/-- A5: acknowledgment wraps. -/
theorem test_aFrame_wraps :
    let t := after .aFrame { b0 with sendSeq := 0xFFFF#16, q := [sentI] }
    t.q = [] ∧ t.sendSeq = 0#16 := by decide +kernel
/-- A3: a Sent control frame at the head is not acknowledged. -/
theorem test_aFrame_control :
    let t := after .aFrame { b0 with q := [sentU 0x04#8] }
    t.q = [sentU 0x04#8] ∧ t.sendSeq = 1#16 ∧ t.hbDeadline = 21000 := by decide +kernel
/-- I10: the faulting step, from the frame's last byte, writes only the fault. -/
theorem test_overflow_faults :
    let s : State := { b0 with
      cfg := { Config.ref with reasmCapacity := 4 }, hbDeadline := 20000, rb := [1#8, 2#8, 3#8, 4#8], rxState := .bodyI, rxNeed := 1
      rxBuf := (iFrameBytes Config.ref 0x0001#16 false [5#8]).dropLast }
    engine (.byte 0x16#8) (.count 2) s
      = { s with rxDraw := .byte 0x16#8, txDraw := .count 2, fault := true, faultReason := some .reasmOverflow } := by
  decide +kernel
/-- S9: the second CMD_START changes nothing but the log. -/
theorem test_cmdStart :
    (after .cmdStart State.reset).hbDeadline = 20000 ∧
      (after .cmdStart { after .cmdStart State.reset with now := 5 }).hbDeadline = 20000 := by decide +kernel
/-- S7: CMD_STOP of a stopped block. -/
theorem test_cmdStop :
    let t := after .cmdStop { State.reset with q := [sentI], rb := [1#8] }
    t.q = [] ∧ t.rb = [] ∧ t.cmdLog = [(.cmdStop, .ok)] := by decide +kernel
/-- P6b: a requested stop completes at the boundary. -/
theorem test_cmdStop_completes :
    let t := engine .timeout .failure { after .cmdStop { b0 with q := [sentI] } with phase := .boundary }
    t.running = false ∧ t.stopReq = false ∧ t.q = [] ∧ t.cmdLog = [(.cmdStop, .ok)] ∧ t.sendSeq = 1#16 := by decide +kernel
/-- R193's example. -/
theorem test_cmdBegin : (after .cmdBegin State.reset).q = [⟨.ku, [0x10#8, 0x04#8, 0x1C#8, 0x16#8], .idle, 0⟩] := by
  decide +kernel
/-- R194's example. -/
theorem test_cmdReset : (after .cmdReset State.reset).q = [⟨.ku, [0x10#8, 0x01#8, 0x07#8, 0x16#8], .idle, 0⟩] := by
  decide +kernel
/-- R195's example. -/
theorem test_cmdEnd : (after .cmdEnd State.reset).q = [⟨.ku, [0x10#8, 0x10#8, 0x70#8, 0x16#8], .idle, 0⟩] := by
  decide +kernel
/-- S1. -/
theorem test_cmdSend :
    (after (.cmdSend [1#8, 2#8, 3#8, 4#8, 5#8]) State.reset).q.map Entry.bytes
      = [[0x68#8, 0x04#8, 0x80#8, 0x04#8, 0x80#8, 0x68#8, 0x00#8, 0x00#8, 0x01#8, 0x02#8, 0x03#8, 0x04#8, 0x00#8, 0x00#8, 0x16#8],
        [0x68#8, 0x01#8, 0x00#8, 0x01#8, 0x00#8, 0x68#8, 0x00#8, 0x00#8, 0x05#8, 0x00#8, 0x00#8, 0x16#8]] := by decide +kernel
/-- S5: 17 fragments into a queue of 16. -/
theorem test_cmdSend_full :
    let t := after (.cmdSend (List.replicate 65 0#8)) State.reset
    t.q = [] ∧ t.cmdLog.map Prod.snd = [.queueFull] := by decide +kernel
/-- S11. -/
theorem test_cmdReg :
    (after (.cmdRegRx 0xFF#8) State.reset).rxCbEn = true ∧ (after (.cmdRegEvt 0xFE#8) b0).evtCbEn = false := by decide +kernel
/-- P1: the head is numbered, completed, sent and stamped. -/
theorem test_tx_step :
    let t := engine .timeout (.count 13) { b0 with phase := .tx, q := [prepareIFrame Config.ref [0x41#8] false] }
    t.q = [⟨.ki, [0x68#8, 0x01#8, 0x00#8, 0x01#8, 0x00#8, 0x68#8, 0x01#8, 0x00#8, 0x41#8, 0xE0#8, 0x30#8, 0x16#8], .sent, 1000⟩] ∧
      t.phase = .hb ∧ t.sendSeq = 1#16 := by decide +kernel
/-- P2a and P2b: nothing at the deadline, a probe after it. -/
theorem test_hb_step :
    let at_ := engine .timeout (.count 5) { b0 with phase := .hb, now := 20000 }
    let past := engine .timeout (.count 5) { b0 with phase := .hb, now := 20001 }
    at_.txLog = [] ∧ past.txLog = [([0xA5#8, 0x10#8, 0x40#8, 0xC7#8, 0x16#8], .ok)] ∧ past.probeCount = 1 ∧
      past.hbDeadline = 40001 := by decide +kernel
/-- P3a and P3b: nothing at TIME_ALIVE, a retransmission after it. -/
theorem test_rt_step :
    let at_ := engine .timeout (.count 13) { b0 with phase := .rt, now := 15500, q := [sentI] }
    let past := engine .timeout (.count 13) { b0 with phase := .rt, now := 15501, q := [sentI] }
    at_.txLog = [] ∧ past.txLog = [(wireUnit Config.ref sentI.bytes, .ok)] ∧ past.q.map Entry.sentTime = [15501] ∧
      past.lastPoll = .ok := by decide +kernel
/-- R115's example: copy-1 bytes 03 80 give L = 3 and 11 bytes to read. -/
theorem test_len_step :
    let t := engine (.byte 0x80#8) .failure { b0 with rxState := .len, rxBuf := [0x68#8, 0x03#8], rxNeed := 1 }
    t.rxState = .bodyI ∧ t.rxNeed = 11 := by decide +kernel
/-- F17: an over-long length is discarded within phase 1. -/
theorem test_overlength :
    let t := engine (.byte 0x00#8) .failure { b0 with rxState := .len, rxBuf := [0x68#8, 0x05#8], rxNeed := 1 }
    t.rxState = .hunt ∧ t.rxBuf = [] ∧ t.rxNeed = 0 ∧ t.phase = .rx ∧ t.hbDeadline = 20000 := by decide +kernel
/-- F15: a failed read in the middle of a frame. -/
theorem test_read_error :
    let t := engine .error .failure { b0 with rxState := .len, rxBuf := [0x68#8], rxNeed := 2 }
    t.fatalCause = .transportRead ∧ t.hbDeadline = 21000 ∧ t.rxState = .hunt ∧ t.evLog = [.linkBroken] := by decide +kernel
/-- Program 1's end state: STATUS = 0x1815. -/
theorem test_status :
    statusWord { b0 with linkState := .active, lastPoll := .ok } = 0x1815#16 := by decide +kernel
/-- Program 2's end state: STATUS = 0x1857. -/
theorem test_status_after_fatal :
    statusWord { b0 with linkState := .reset, lastPoll := .ok, fatalCause := .seqViolation } = 0x1857#16 := by decide +kernel
/-- A placed frame is the next step's instruction (log entry 6). -/
theorem test_fetch_frame :
    let t := nextOf (step (State.reset.withFetchWord 8 0xE5)) State.reset
    t.phase = .tx ∧ t.hbDeadline = 20000 := by decide +kernel
/-- A placed command is the next step's instruction (log entry 6). -/
theorem test_fetch_command :
    (nextOf (step (State.reset.withFetchWord 8 0x01)) State.reset).cmdLog = [(.cmdStart, .ok)] := by decide +kernel
/-- U6: a time that no longer fits a finite TIME_W is refused. -/
theorem test_time_overflow :
    step { State.reset with cfg := { Config.ref with timeW := some 8 }, sched := [.clock 256] } = .refused .timeOverflow := by
  rfl

/-! ## Witnesses: states and operands that meet the hypotheses of each statement, one for each of its clauses -/

/-- A state with this move listed. -/
def on (a : Action) (s : State) : State := { s with sched := [a] }

/-- The complete I-frame of R85, and one whose end marker is wrong. -/
def frameOk : List Byte := [0x68#8, 0x01#8, 0x00#8, 0x01#8, 0x00#8, 0x68#8, 0x01#8, 0x00#8, 0x41#8, 0xE0#8, 0x30#8, 0x16#8]

/-- The middle of a reception, with a Sent I-frame at the head, an Idle entry behind it and a partial message. -/
def busy : State :=
  { b0 with
    q := [sentI, prepareIFrame Config.ref [0x42#8] false], rb := [1#8, 2#8]
    rxState := .len, rxBuf := [0x68#8], rxNeed := 2 }

theorem busy_inv : busy.Inv where
  cfgWellFormed := by decide
  onlyHeadSent := by decide
  queueBounded := by decide
  rbBounded := by decide
  rxConsistent := ⟨by decide, by decide, by decide⟩
  huntOutsideRx := by decide
  probesBounded := by decide
  stoppedAtBoundary := by decide
  stopWaits := by decide
  deadlineNear := by decide
  stampsPast := by decide
  faultRecorded := by decide

theorem busy_framesOk : busy.QueueFramesOk := by
  intro e he
  simp only [busy, List.mem_cons, List.not_mem_nil, or_false] at he
  rcases he with rfl | rfl
  · exact ⟨[0x41#8], false, by decide, rfl⟩
  · exact ⟨[0x42#8], false, by decide, rfl⟩

theorem witness_IllFormedParametersGiveNoInitialState :
    Config.ref.WellFormed = true ∧ ({ Config.ref with queueDepth := 0 } : Config).WellFormed = false := by decide
theorem witness_ResetStateMeetsTheInvariant : Config.ref.WellFormed = true := by decide
theorem witness_ParametersStayAndTimeNeverDecreases : ∃ t, step (on (.clock 5) b0) = .next t ∧ t.now = 1005 := ⟨_, rfl, rfl⟩
theorem witness_DecodingAnEncodedInstructionGivesItBack :
    Config.ref.WellFormed = true ∧ (Instr.iFrame 0xFFFF#16 true [0xA5#8, 0x68#8, 0x16#8, 0xE5#8]).WellFormed Config.ref = true := by
  decide
theorem witness_IFrameIsRecognizedExactlyWhenItsChecksPass :
    frameOk.head? = some Config.ref.iMark ∧ frameOk.length = lengthOf (halfAt frameOk 1) + 11 ∧
      lengthOf (halfAt frameOk 1) ≤ Config.ref.rxMaxPayload := by decide
theorem witness_UFrameIsRecognizedExactlyWhenItsChecksPass : Config.ref.WellFormed = true := by decide
theorem witness_PreparedIFrameHasItsFields : (List.replicate 0x7FFF 0#8 : List Byte).length ≤ 0x7FFF :=
  Nat.le_of_eq List.length_replicate
theorem witness_StepRunsTheHostCommand :
    (on (.host [0x01#8]) b0).sched = [.host [0x01#8]] ∧ decode b0.cfg (.command [0x01#8]) = .ok .cmdStart ∧ b0.cfg.timeW = none := by
  decide
/-- The reserved codes at both ends of R92's ranges, with the command 0x08 between them; an operand byte too many and one too few. -/
theorem witness_ReservedCommandIsRefusedWithNoOtherEffect :
    (0x00#8 : Byte) = 0x00#8 ∧ 9 ≤ (0x09#8 : Byte).toNat ∧ 9 ≤ (0xFF#8 : Byte).toNat ∧ ¬ 9 ≤ (0x08#8 : Byte).toNat ∧
    decodeCommand [0xFF#8, 0x01#8] = .reject .reservedCommand ∧ decodeCommand [0x08#8, 0x01#8] = .ok (.cmdRegEvt 0x01#8) ∧
    decodeCommand [0x05#8, 0x00#8] = .reject .badOperand ∧ (on (.host [0xFF#8]) b0).sched = [.host [0xFF#8]] ∧
    decode b0.cfg (.command [0x00#8]) = .reject .reservedCommand ∧ decode b0.cfg (.command [0x09#8]) = .reject .reservedCommand ∧
      decode b0.cfg (.command [0x07#8]) = .reject .badOperand ∧ b0.cfg.timeW = none := by decide

/-- A state that has read all of a frame but its last byte. -/
def lastByte (x : RxState) (F : List Byte) (w : WriteResult) (s : State) : State :=
  { s with rxState := x, rxBuf := F.dropLast, rxNeed := 1, sched := [.engine (.byte (F.getLastD 0#8)) w] }

/-- Both clauses: a frame that runs, and one that faults. -/
theorem witness_StepRunsTheReceivedFrame :
    (decode b0.cfg (.frame ((lastByte .bodyU [0x10#8, 0x04#8, 0x1C#8, 0x16#8] (.count 5) b0).rxBuf ++ [0x16#8])) = .ok .uStart ∧
      (after .uStart b0).fault = false) ∧
    decode b0.cfg (.frame ((lastByte .bodyI frameOk (.count 2) b0).rxBuf ++ [0x16#8])) = .ok (.iFrame 1#16 false [0x41#8]) ∧
      (after (.iFrame 1#16 false [0x41#8]) { b0 with rb := List.replicate 64 0#8 }).fault = true := by decide +kernel
theorem witness_StepRunsTheAFrameAtItsTypeByte :
    let s : State := { on (.engine (.byte 0xE5#8) .failure) b0 with rxState := .type }
    s.cfg.WellFormed = true ∧ s.sched = [.engine (.byte s.cfg.aMark) .failure] ∧ s.running = true ∧ s.fault = false ∧
      s.phase = .rx ∧ s.rxState = .type ∧ s.cfg.timeW = none := by decide
/-- An enabled ENGINE, and the two ways it is disabled. -/
theorem witness_EngineMoveRunsItsPollStepExactlyWhenEnabled :
    (on (.engine .timeout .failure) b0).sched = [.engine .timeout .failure] ∧ (b0.running = true ∧ b0.fault = false) ∧
      ¬ (State.reset.running = true ∧ State.reset.fault = false) ∧
      ¬ (b0.running = true ∧ ({ b0 with fault := true } : State).fault = false) := by decide
theorem witness_ClockMoveAdvancesNowOnly : (on (.clock 0) b0).sched = [.clock 0] ∧ b0.cfg.timeW = none := by decide
theorem witness_EveryStepHasANextState : b0.cfg.timeW = none := by decide
theorem witness_FiniteTimeWidthNeverOverflows :
    let s : State := { on (.clock 5) b0 with cfg := { Config.ref with timeW := some 16 } }
    s.cfg.timeW = some 16 ∧ ∃ t, step s = .next t := ⟨rfl, _, rfl⟩
theorem witness_EveryStepKeepsTheInvariant :
    (on (.engine (.byte 0x01#8) .failure) busy).Inv ∧ ∃ t, step (on (.engine (.byte 0x01#8) .failure) busy) = .next t :=
  ⟨{ busy_inv with }, _, rfl⟩
theorem witness_EveryStepKeepsTheQueuedFramesWellFormed :
    (on (.engine (.byte 0x01#8) .failure) busy).Inv ∧ (on (.engine (.byte 0x01#8) .failure) busy).QueueFramesOk ∧
      ∃ t, step (on (.engine (.byte 0x01#8) .failure) busy) = .next t := ⟨{ busy_inv with }, busy_framesOk, _, rfl⟩
/-- A heartbeat step past its deadline, which transmits a probe. -/
def probing : State := { b0 with phase := .hb, now := 20001, sched := [.engine .timeout (.count 5)] }

theorem probing_inv : probing.Inv where
  cfgWellFormed := by decide
  onlyHeadSent := by decide
  queueBounded := by decide
  rbBounded := by decide
  rxConsistent := ⟨rfl, rfl⟩
  huntOutsideRx := by decide
  probesBounded := by decide
  stoppedAtBoundary := by decide
  stopWaits := by decide
  deadlineNear := by decide
  stampsPast := by decide
  faultRecorded := by decide

theorem witness_EveryTransmittedUnitIsSyncAndOneFrame :
    probing.Inv ∧ probing.QueueFramesOk ∧ ∃ t, step probing = .next t ∧ t.txLog.length = 1 :=
  ⟨probing_inv, (by intro e he; cases he), _, rfl, rfl⟩
theorem witness_PhaseFollowsThePollSequence :
    ∃ t, step (on (.engine .timeout .failure) b0) = .next t ∧ t.phase = .tx := ⟨_, rfl, rfl⟩
theorem witness_LogsAreAppendOnly :
    ∃ t, step (on (.host [0x08#8, 0x01#8]) b0) = .next t ∧ t.cmdLog = [(.cmdRegEvt 1#8, .ok)] := ⟨_, rfl, rfl⟩
theorem witness_QueueChangesOnlyAtItsEnds : ∃ t, step (on (.host [0x03#8]) busy) = .next t ∧ t.q.length = 3 := ⟨_, rfl, rfl⟩
/-- The A-frame's step acknowledges the Sent I-frame at the head. -/
theorem witness_SendSeqChangesOnlyByItsThreeWriters :
    ∃ t, step { on (.engine (.byte 0xE5#8) .failure) b0 with rxState := .type, q := [sentI] } = .next t ∧ t.sendSeq = 2#16 :=
  ⟨_, rfl, rfl⟩
theorem witness_RecvSeqStaysAdvancesByOneOrClears : ∃ t, step (on (.engine .error .failure) b0) = .next t ∧ t.recvSeq = 0#16 :=
  ⟨_, rfl, rfl⟩
/-- Both halves: a frame that moves it, and the step that reads that frame's last byte. -/
theorem witness_LinkStateMovesOnlyAsItsTableSays :
    (∃ t, exec .uStop b0 = .next t ∧ t.linkState = .stopped) ∧
      ∃ t, step (lastByte .bodyU (uFrame Config.ref 0x04#8) (.count 5) b0) = .next t ∧ t.linkState = .active :=
  ⟨⟨_, rfl, rfl⟩, _, rfl, rfl⟩
theorem witness_LinkStateGatesNothing : ∃ t, step (on (.engine .timeout .failure) b0) = .next t := ⟨_, rfl⟩
/-- One command of each kind of frame. -/
theorem witness_EachHostCommandChangesOnlyWhatItsRuleNames :
    (∃ t, exec .cmdStart State.reset = .next t ∧ t.running = true) ∧ (∃ t, exec .cmdStop b0 = .next t ∧ t.stopReq = true) ∧
      (∃ t, exec .cmdBegin b0 = .next t ∧ t.q.length = 1) ∧ (∃ t, exec (.cmdRegRx 0#8) b0 = .next t ∧ t.rxCbEn = false) ∧
      ∃ t, exec (.cmdRegEvt 0#8) b0 = .next t ∧ t.evtCbEn = false :=
  ⟨⟨_, rfl, rfl⟩, ⟨_, rfl, rfl⟩, ⟨_, rfl, rfl⟩, ⟨_, rfl, rfl⟩, _, rfl, rfl⟩
theorem witness_ReceivedFramesLeaveTheHostControlsAlone : Instr.uTest.isCommand = false ∧ ∃ t, exec .uTest b0 = .next t :=
  ⟨rfl, _, rfl⟩
theorem witness_AFaultIsStickyAndSilencesTheEngine :
    let s : State := { on (.host [0x01#8]) b0 with fault := true, faultReason := some .reasmOverflow }
    s.fault = true ∧ ∃ t, step s = .next t := ⟨rfl, _, rfl⟩
/-- The unit of R85, byte by byte, with room for its payload. -/
theorem witness_AFrameReadByteByByteRunsItsInstruction :
    let i : Instr := .iFrame 1#16 false [0x41#8]
    let s : State := { b0 with sched := (wireUnit Config.ref frameOk).map (fun b => Action.engine (.byte b) (.count 2)) }
    (s.cfg.WellFormed = true ∧ s.cfg.timeW = none ∧ i.WellFormed s.cfg = true ∧ encode s.cfg i = .frame frameOk ∧
      s.running = true ∧ s.fault = false ∧ s.phase = .rx ∧ s.rxState = .hunt ∧ s.rxBuf = [] ∧ s.rxNeed = 0) ∧
      (after i { s with sched := [], rxDraw := .byte 0x16#8, txDraw := .count 2 }).fault = false := by decide +kernel
/-- One state for the four answers of a read in HUNT. -/
theorem witness_HuntStepSkipsToSync : b0.phase = .rx ∧ b0.rxState = .hunt ∧ (0x00#8 : Byte) ≠ b0.cfg.sync := by decide
theorem witness_TypeStepSelectsTheFrameKind :
    let s : State := { b0 with rxState := .type }
    s.cfg.WellFormed = true ∧ s.phase = .rx ∧ s.rxState = .type ∧ s.fault = false ∧
      [s.cfg.iMark, s.cfg.uMark, s.cfg.aMark].all (fun m => m ≠ s.cfg.sync) := by decide
/-- The first byte of the length copy, and its last with L one above and at RX_MAX_PAYLOAD. -/
theorem witness_LenStepReadsTheFirstLengthCopy :
    let first : State := { b0 with rxState := .len, rxBuf := [0x68#8], rxNeed := 2 }
    let last (lo : Byte) : State := { b0 with rxState := .len, rxBuf := [0x68#8, lo], rxNeed := 1, rxDraw := .byte 0x80#8 }
    (first.phase = .rx ∧ first.rxState = .len ∧ 2 ≤ first.rxNeed) ∧
      (last 5#8).cfg.rxMaxPayload < lengthOf (halfAt ((last 5#8).rxBuf ++ [0x80#8]) 1) ∧
      lengthOf (halfAt ((last 4#8).rxBuf ++ [0x80#8]) 1) ≤ (last 4#8).cfg.rxMaxPayload := by decide
/-- A byte in the middle, a last byte that fails validation, and one that completes a frame. -/
theorem witness_BodyStepCountsBytesAndHandsOff :
    let s := lastByte .bodyU [0x10#8, 0x04#8, 0x1C#8, 0x16#8] (.count 5) b0
    s.phase = .rx ∧ s.rxState = .bodyU ∧ s.rxNeed = 1 ∧ 2 ≤ ({ s with rxNeed := 3 } : State).rxNeed ∧
      decodeFrame s.cfg (s.rxBuf ++ [0x17#8]) = .reject .badMarker ∧ decodeFrame s.cfg (s.rxBuf ++ [0x16#8]) = .ok .uStart ∧
      (after .uStart b0).fault = false := by decide +kernel
/-- The write answers of the four act frames' two clauses: whole, one byte short, and a failure. -/
theorem witness_ReceivedStartIsConfirmed :
    Config.ref.WellFormed = true ∧ b0.txDraw = .count 5 ∧ ({ b0 with txDraw := .count 4 } : State).txDraw ≠ .count 5 ∧
      ({ b0 with txDraw := .failure } : State).txDraw ≠ .count 5 := by decide
theorem witness_ReceivedResetClearsTheReceiver :
    Config.ref.WellFormed = true ∧ b0.txDraw = .count 5 ∧ ({ b0 with txDraw := .count 6 } : State).txDraw ≠ .count 5 := by decide
theorem witness_ReceivedStopIsConfirmed :
    Config.ref.WellFormed = true ∧ b0.txDraw = .count 5 ∧ ({ b0 with txDraw := .count 0 } : State).txDraw ≠ .count 5 := by decide
theorem witness_ReceivedTestIsConfirmed :
    Config.ref.WellFormed = true ∧ b0.txDraw = .count 5 ∧ ({ b0 with txDraw := .failure } : State).txDraw ≠ .count 5 := by decide
/-- A head that matches, and heads that do not: none, Idle, another code, an I-frame. -/
theorem witness_StartConfirmPopsItsStart :
    HeadIsSentControl 0x04#8 { b0 with q := [sentU 0x04#8] } ∧
      [[], [prepareUFrame Config.ref 0x04#8], [sentU 0x10#8], [sentI]].all
        (fun q => headConfirmedBy 0x04#8 { b0 with q := q } = false) := ⟨⟨_, _, rfl, rfl, rfl, rfl⟩, by decide +kernel⟩
theorem witness_ResetConfirmRestartsTheSender :
    HeadIsSentControl Config.ref.codeReset { b0 with q := [sentU 0x01#8] } ∧
      headConfirmedBy Config.ref.codeReset { b0 with q := [sentU 0x02#8] } = false := ⟨⟨_, _, rfl, rfl, rfl, rfl⟩, by decide +kernel⟩
theorem witness_StopConfirmPopsItsStop :
    HeadIsSentControl Config.ref.codeStop { b0 with q := [sentU 0x10#8] } ∧
      headConfirmedBy Config.ref.codeStop { b0 with q := [sentU 0x04#8] } = false := ⟨⟨_, _, rfl, rfl, rfl, rfl⟩, by decide +kernel⟩
/-- A Sent TEST at the head, which no run has, and an empty queue. -/
theorem witness_TestConfirmClearsTheProbeCount :
    HeadIsSentControl 0x40#8 { b0 with q := [sentU 0x40#8] } ∧ headConfirmedBy 0x40#8 b0 = false :=
  ⟨⟨_, _, rfl, rfl, rfl, rfl⟩, by decide⟩
/-- The four clauses: room to the last byte with each write answer, one byte too many, and a gap. -/
theorem witness_IFrameIsAcceptedFaultsOrViolatesTheSequence :
    let s : State := { b0 with rb := List.replicate 63 0#8, txDraw := .count 2 }
    1#16 = s.recvSeq + 1#16 ∧ s.rb.length + [0x41#8].length ≤ s.cfg.reasmCapacity ∧ s.txDraw = .count 2 ∧
      b0.txDraw ≠ .count 2 ∧ s.cfg.reasmCapacity < s.rb.length + [0x41#8, 0x42#8].length ∧ 3#16 ≠ s.recvSeq + 1#16 := by decide
theorem witness_AFrameAcknowledgesTheSentIFrame :
    HeadIsSentIFrame { b0 with q := [sentI] } ∧ headIsSentI { b0 with q := [sentU 0x04#8] } = false ∧ headIsSentI b0 = false :=
  ⟨⟨_, _, rfl, rfl, rfl⟩, by decide +kernel, by decide⟩
theorem witness_FragmentsReassembleToTheMessage :
    let s : State := { b0 with txDraw := .count 2 }
    1 ≤ Config.ref.maxPayload ∧ ([1#8, 2#8, 3#8, 4#8, 5#8] : List Byte) ≠ [] ∧ s.rb = [] ∧ 5 ≤ s.cfg.reasmCapacity ∧
      s.rxCbEn = true ∧ s.txDraw = .count 2 := by decide
theorem witness_BoundaryStepStopsOrBeginsThePoll :
    let s : State := { b0 with phase := .boundary }
    s.phase = .boundary ∧ s.stopReq = false ∧ ({ s with stopReq := true, stopWaiting := 2 } : State).stopReq = true := by decide
/-- An Idle I-frame, an Idle U-frame and a Sent head in phase 2, each with both write answers. -/
theorem witness_TransmitStepSendsTheIdleHead :
    let s : State := { b0 with phase := .tx }
    s.phase = .tx ∧
      ({ s with q := [prepareIFrame Config.ref [0x41#8] false], txDraw := .count 13 } : State).txDraw = .count ([0x41#8].length + 12) ∧
      ({ s with q := [prepareUFrame Config.ref 0x04#8] } : State).txDraw = .count ((uFrame Config.ref 0x04#8).length + 1) ∧
      prepareUFrame Config.ref 0x04#8 = ⟨.ku, uFrame Config.ref 0x04#8, .idle, 0⟩ ∧ sentI.st = .sent ∧
      WriteResult.failure ≠ .count 13 ∧ s.q = [] := by decide +kernel
/-- At the deadline, just past it with 2 probes sent and with 3. -/
theorem witness_HeartbeatStepProbesOrDeclaresTheLinkDead :
    let s (now probes : Nat) : State := { b0 with phase := .hb, now := now, probeCount := probes }
    (s 20000 0).now ≤ (s 20000 0).hbDeadline ∧ (s 20001 2).hbDeadline < (s 20001 2).now ∧ (s 20001 2).probeCount ≤ 2 ∧
      2 < (s 20001 3).probeCount ∧ b0.txDraw = .count 5 ∧ WriteResult.count 4 ≠ .count 5 := by decide
/-- A Sent head at its deadline and just past it, and an Idle head. -/
theorem witness_RetransmitStepResendsTheLateHead :
    let s (now : Nat) : State := { b0 with phase := .rt, now := now, q := [sentI] }
    sentI.st = .sent ∧ (s 15500).now - sentI.sentTime ≤ (s 15500).cfg.timeAlive ∧ (s 15501).cfg.timeAlive < (s 15501).now - sentI.sentTime ∧
      (prepareUFrame Config.ref 0x04#8).st = .idle ∧ WriteResult.count 13 = .count (sentI.bytes.length + 1) := by decide +kernel
/-- R262's timeline with a queued I-frame: a poll at the first deadline, and then each late poll at the first tick past its deadline. -/
def silent : State :=
  { b0 with
    phase := .boundary, now := 0, q := [prepareIFrame Config.ref [0x41#8] false]
    sched := ([⟨20000, .count 13, .failure, .failure⟩, ⟨1, .failure, .count 5, .count 13⟩, ⟨20001, .failure, .count 5, .count 13⟩,
      ⟨20001, .failure, .count 5, .count 13⟩] : List SilentPoll).flatMap SilentPoll.moves
      ++ SilentPoll.deadMoves ⟨20001, .failure, .failure, .failure⟩ }

theorem silent_inv : silent.Inv where
  cfgWellFormed := by decide
  onlyHeadSent := by decide
  queueBounded := by decide
  rbBounded := by decide
  rxConsistent := ⟨rfl, rfl⟩
  huntOutsideRx := by decide
  probesBounded := by decide
  stoppedAtBoundary := by decide
  stopWaits := by decide
  deadlineNear := by decide
  stampsPast := by decide
  faultRecorded := by decide

theorem silent_framesOk : silent.QueueFramesOk := by
  intro e he
  simp only [silent, List.mem_cons, List.not_mem_nil, or_false] at he
  subst he
  exact ⟨[0x41#8], false, by decide, rfl⟩

/-- No write fails in the whole run, of which every prefix is checked. -/
theorem silent_writes :
    (List.range 30).all (fun n =>
      match Sys2Proof.core.run n silent with
      | .next t => t.txLog.all fun u => u.2 = .ok
      | .fault _ => false
      | .refused _ => false) = true := by decide +kernel

theorem witness_SilentPeerIsDeclaredDeadAtTheFourthDeadline :
    silent.Inv ∧ silent.QueueFramesOk ∧ silent.cfg.timeW = none ∧ silent.phase = .boundary ∧ silent.running = true ∧
      silent.fault = false ∧ silent.stopReq = false ∧ silent.probeCount = 0 ∧ silent.txLog = [] ∧
      silent.now + 20000 ≤ silent.hbDeadline ∧ silent.hbDeadline < silent.now + 20000 + 1 ∧ 0 ≤ silent.cfg.timeHeart ∧
      silent.cfg.timeHeart < 0 + 20001 ∧ silent.sched.length = 29 :=
  ⟨silent_inv, silent_framesOk, by decide⟩
theorem witness_StartCommandStartsOnce : State.reset.running = false ∧ b0.running = true := by decide
theorem witness_StopCommandClearsAtOnceOrAtTheBoundary :
    State.reset.running = false ∧ b0.running = true ∧ ({ b0 with phase := .boundary } : State).phase = .boundary := by decide
/-- A queue one below its depth, and one at it. -/
theorem witness_LifecycleCommandsQueueTheirControlFrames :
    ({ b0 with q := List.replicate 15 sentI } : State).q.length < b0.cfg.queueDepth ∧
      b0.cfg.queueDepth ≤ ({ b0 with q := List.replicate 16 sentI } : State).q.length := by decide
/-- 64 bytes fit an empty queue of 16 exactly, and 65 do not. -/
theorem witness_SendCommandQueuesAllFragmentsOrNone :
    1 ≤ b0.cfg.maxPayload ∧ b0.q.length + (64 + 4 - 1) / 4 ≤ b0.cfg.queueDepth ∧
      b0.cfg.queueDepth < b0.q.length + (65 + 4 - 1) / 4 := by decide
/-- R205's message of 14 bytes with fragments of 4: i = 2 is not the last, i = 3 is. -/
theorem witness_FragmentsCoverTheMessageInOrder :
    1 ≤ b0.cfg.maxPayload ∧ b0.q.length + (14 + 4 - 1) / 4 ≤ b0.cfg.queueDepth ∧ 2 + 1 < (14 + 4 - 1) / 4 ∧
      3 + 1 = (14 + 4 - 1) / 4 := by decide

end Sys2Proof.Tests
end

section
/-! SUPPORT. What a step does to the parameters and the time, that it always has an outcome of one form, and the settled statements of 00_scope.md (R6 to R8). -/

namespace Sys2Proof.Machine

/-! ## The operations that keep parameters and time -/

/-- `t` has the parameters and the time of `s`. -/
def SameCfgNow (s t : State) : Prop := t.cfg = s.cfg ∧ t.now = s.now

theorem sendThen_sameCfgNow {F : List Byte} {rest : State → State} {s : State}
    (h : SameCfgNow s (rest (logTx F s))) : SameCfgNow s (sendThen F rest s) :=
  sendThen_induct (SameCfgNow s) h ⟨fatalReset_cfg .., fatalReset_now ..⟩

/-- Every end of a received frame keeps parameters and time: each shared operation does. -/
theorem exec_frame_sameCfgNow {i : Instr} {s t : State} (hi : i.isCommand = false) (h : exec i s = .next t) :
    SameCfgNow s t := by
  refine exec_frame_induct (SameCfgNow s) (SameCfgNow s) hi h ⟨rfl, rfl⟩ ?log ?event ?link ?clear ?pop ?restart ?ack
    ?accept ⟨rfl, rfl⟩ ?fatal ?finish
  case log => exact fun _ _ hu _ _ => hu
  case event => exact fun _ _ hu => hu
  case link => exact fun _ _ hu => hu
  case clear => exact fun _ _ => ⟨rfl, rfl⟩
  case pop => exact fun _ _ => ⟨rfl, rfl⟩
  case restart => exact fun _ => ⟨rfl, rfl⟩
  case ack => exact fun _ => ⟨rfl, rfl⟩
  case accept => exact fun more p _ => ⟨onFragment_cfg p more _, onFragment_now p more _⟩
  case fatal => exact fun _ _ hu => hu
  case finish => exact fun _ hu => hu

/-- A command writes flags, the queue and the command log, never a parameter or the time. -/
theorem exec_command_sameCfgNow {i : Instr} {s t : State} (hi : i.isCommand = true) (h : exec i s = .next t) :
    SameCfgNow s t := by
  cases i <;> simp only [Instr.isCommand, Bool.false_eq_true] at hi <;> injection h with h <;> subst h
  case cmdStart => cases hr : s.running <;> simp [SameCfgNow]
  case cmdStop => cases hr : s.running <;> simp [SameCfgNow]
  case cmdBegin | cmdReset | cmdEnd | cmdSend => exact ⟨pushAll_cfg .., pushAll_now ..⟩
  case cmdRegRx | cmdRegEvt => exact ⟨rfl, rfl⟩

theorem exec_sameCfgNow {i : Instr} {s t : State} (h : exec i s = .next t) : SameCfgNow s t := by
  cases hi : i.isCommand with
  | false => exact exec_frame_sameCfgNow hi h
  | true => exact exec_command_sameCfgNow hi h

theorem FramerEnd.sameCfgNow {v t : State} (h : FramerEnd v t) : SameCfgNow v t := by
  cases h with
  | move hm => cases hm <;> exact ⟨rfl, rfl⟩
  | ran _ hx _ => exact (exec_sameCfgNow hx :)
  | discarded | dropped | quiet | readFailed | faulted => exact ⟨rfl, rfl⟩

theorem boundaryStep_sameCfgNow (s : State) : SameCfgNow s (boundaryStep s) := by
  unfold boundaryStep
  split <;> exact ⟨rfl, rfl⟩

theorem txStep_sameCfgNow (s : State) : SameCfgNow s (txStep s) := by
  unfold txStep
  split
  · exact ⟨rfl, rfl⟩
  · split
    · exact ⟨rfl, rfl⟩
    · exact sendThen_sameCfgNow ⟨rfl, rfl⟩

theorem hbStep_sameCfgNow (s : State) : SameCfgNow s (hbStep s) := by
  unfold hbStep
  split
  · split
    · exact ⟨rfl, rfl⟩
    · exact sendThen_sameCfgNow ⟨rfl, rfl⟩
  · exact ⟨rfl, rfl⟩

theorem rtStep_sameCfgNow (s : State) : SameCfgNow s (rtStep s) := by
  unfold rtStep
  split
  · exact ⟨rfl, rfl⟩
  · split
    · exact sendThen_sameCfgNow ⟨rfl, rfl⟩
    · exact ⟨rfl, rfl⟩

/-- Only CLOCK moves the time, and only forward (R8). -/
theorem MoveEnd.cfg_eq_and_now_le {u t : State} (h : MoveEnd u t) : t.cfg = u.cfg ∧ u.now ≤ t.now := by
  have weaken : SameCfgNow u t → t.cfg = u.cfg ∧ u.now ≤ t.now := fun h => ⟨h.1, h.2.ge⟩
  cases h with
  | clock d => exact ⟨rfl, Nat.le_add_right ..⟩
  | command _ hx => exact weaken (exec_sameCfgNow hx)
  | refused | disabled => exact ⟨rfl, le_rfl⟩
  | boundary r w => exact weaken (boundaryStep_sameCfgNow { u with rxDraw := r, txDraw := w })
  | rx r w _ _ _ he => exact weaken he.sameCfgNow
  | tx r w => exact weaken (txStep_sameCfgNow { u with rxDraw := r, txDraw := w })
  | hb r w => exact weaken (hbStep_sameCfgNow { u with rxDraw := r, txDraw := w })
  | rt r w => exact weaken (rtStep_sameCfgNow { u with rxDraw := r, txDraw := w })

theorem afterDraw_sameCfgNow (s : State) : SameCfgNow s (afterDraw s) := by
  obtain ⟨sched, turn, h⟩ := afterDraw_eq s
  rw [h]
  exact ⟨rfl, rfl⟩

theorem MoveEnd.drawn_cfg_eq_and_now_le {s t : State} (h : MoveEnd (afterDraw s) t) :
    t.cfg = s.cfg ∧ s.now ≤ t.now := by
  obtain ⟨hcfg, hnow⟩ := afterDraw_sameCfgNow s
  exact ⟨h.cfg_eq_and_now_le.1.trans hcfg, hnow ▸ h.cfg_eq_and_now_le.2⟩

/-! ## Every move has a next state -/

theorem complete_next (F : List Byte) (s : State) : ∃ t, complete F s = .next t := by
  unfold complete
  split
  · rename_i i _
    obtain ⟨u, hu⟩ := exec_next i (discardPartial s)
    rw [hu]
    cases hf : u.fault with
    | false => exact ⟨_, keepOnlyFault_of_no_fault hf⟩
    | true => exact ⟨_, keepOnlyFault_of_fault hf⟩
  · exact ⟨_, rfl⟩

theorem typeByte_next (b : Byte) (s : State) : ∃ t, typeByte b s = .next t := by
  unfold typeByte
  split_ifs
  · exact ⟨_, rfl⟩
  · exact ⟨_, rfl⟩
  · exact complete_next ..
  · exact ⟨_, rfl⟩

theorem bodyByte_next (b : Byte) (s : State) : ∃ t, bodyByte b s = .next t := by
  unfold bodyByte
  split_ifs
  · exact complete_next ..
  · exact ⟨_, rfl⟩

theorem framerByte_next (b : Byte) (s : State) : ∃ t, framerByte b s = .next t := by
  unfold framerByte
  split
  · exact ⟨_, rfl⟩
  · exact typeByte_next ..
  · exact ⟨_, rfl⟩
  all_goals exact bodyByte_next ..

theorem framerStep_next (s : State) : ∃ t, framerStep s = .next t := by
  unfold framerStep
  split
  · exact framerByte_next ..
  all_goals exact ⟨_, rfl⟩

theorem engineStep_next (s : State) : ∃ t, engineStep s = .next t := by
  unfold engineStep
  split
  case h_2 => exact framerStep_next s
  all_goals exact ⟨_, rfl⟩

/-- No move of an agent stops the machine, whatever it draws. -/
theorem act_next (a : Action) (s : State) : ∃ t, act a s = .next t := by
  cases a with
  | host bytes =>
    simp only [act, hostStep]
    split
    · exact exec_next ..
    · exact ⟨_, rfl⟩
  | engine r w =>
    simp only [act]
    split
    · exact engineStep_next _
    · exact ⟨_, rfl⟩
  | clock d => exact ⟨_, rfl⟩

/-! ## The time check -/

theorem timesFit_of_unbounded {t : State} (h : t.cfg.timeW = none) : timesFit t = true := by
  simp [timesFit, fitsWidth, h]

theorem timesFit_iff_of_bounded {t : State} {n : Nat} (h : t.cfg.timeW = some n) :
    timesFit t = true ↔
      t.now < 2 ^ n ∧ t.hbDeadline < 2 ^ n ∧ ∀ e ∈ t.q, e.st = .sent → e.sentTime + t.cfg.timeAlive < 2 ^ n := by
  have entry (e : Entry) (a : Nat) :
      (e.st = .idle ∨ e.sentTime + a < 2 ^ n) ↔ (e.st = .sent → e.sentTime + a < 2 ^ n) := by
    cases e.st <;> simp
  simp [timesFit, fitsWidth, h, entry, and_assoc]

/-- The whole form of a step: a move with a next state of the same parameters, then the time check. -/
theorem step_eq_timeCheck (s : State) :
    ∃ t, t.cfg = s.cfg ∧ step s = if timesFit t then .next t else .refused .timeOverflow := by
  obtain ⟨t, ht⟩ := act_next (nextAction s) (afterDraw s)
  exact ⟨t, (act_end ht).drawn_cfg_eq_and_now_le.1, by rw [step, ht, withinTime]⟩

theorem step_cfg_eq_and_now_le {s s' : State} (h : step s = .next s') : s'.cfg = s.cfg ∧ s.now ≤ s'.now :=
  (step_end h).1.drawn_cfg_eq_and_now_le

/-! ## The admitted assignments -/

theorem marksDistinct_iff (c : Config) :
    c.MarksDistinct ↔ c.sync ≠ c.iMark ∧ c.sync ≠ c.uMark ∧ c.sync ≠ c.aMark ∧ c.iMark ≠ c.uMark ∧
      c.iMark ≠ c.aMark ∧ c.uMark ≠ c.aMark := by
  simp [and_assoc]

theorem construct_of_wellFormed {c : Config} (h : c.WellFormed = true) (now : Nat) (sched : List Action) :
    State.construct c now sched = .next (State.resetWith c now sched) := if_pos h

theorem construct_of_illFormed {c : Config} (h : ¬ c.WellFormed = true) (now : Nat) (sched : List Action) :
    State.construct c now sched = .refused .illFormedParameters := if_neg h

/-! ## The settled statements -/

/-- Settles O4: the draw and every end of a move keep the parameters, and only CLOCK writes `now`. -/
theorem parametersStayAndTimeNeverDecreases : Obligations.ParametersStayAndTimeNeverDecreases :=
  fun _ _ h => step_cfg_eq_and_now_le h

/-- Settles O16: every move has a next state, so the time check alone decides the outcome of a step. -/
theorem everyStepHasANextState : Obligations.EveryStepHasANextState := by
  intro s
  obtain ⟨t, hcfg, hstep⟩ := step_eq_timeCheck s
  rw [hstep]
  by_cases hfit : timesFit t = true
  · simp [hfit]
  · have bounded : s.cfg.timeW ≠ none := fun h => hfit (timesFit_of_unbounded (hcfg ▸ h))
    simp [hfit, bounded]

/-- Settles O17: the next state passed the time check, under the width the step kept. -/
theorem finiteTimeWidthNeverOverflows : Obligations.FiniteTimeWidthNeverOverflows := by
  intro s s' n hw h
  have hw' : s'.cfg.timeW = some n := (step_cfg_eq_and_now_le h).1 ▸ hw
  exact (timesFit_iff_of_bounded hw').1 (step_end h).2

/-- Settles O2: the admitted assignments are the well-formed ones, clause by clause, and `construct` tests just that. -/
theorem illFormedParametersGiveNoInitialState : Obligations.IllFormedParametersGiveNoInitialState := by
  intro c now sched admitted
  have hiff : c.WellFormed = true ↔ admitted :=
    decide_eq_true_iff.trans (and_congr (marksDistinct_iff c) Iff.rfl)
  exact ⟨hiff, fun h => construct_of_wellFormed (hiff.2 h) now sched,
    fun h => construct_of_illFormed (mt hiff.1 h) now sched⟩

/-- Settles O15: the step makes the listed CLOCK move, and unbounded time passes the check. -/
theorem clockMoveAdvancesNowOnly : Obligations.ClockMoveAdvancesNowOnly := by
  intro s d rest hsched
  have hstep : step s = withinTime (.next { s with sched := rest, now := s.now + d }) := step_of_sched hsched
  refine ⟨hstep, fun hw => hstep.trans (withinTime_of_unbounded ?_)⟩
  rintro t ⟨⟩
  exact hw

end Sys2Proof.Machine
end

section
/-! SUPPORT. The ends of the poll steps and of the host commands as rules for a property, and the settled invariant of the state (R7, R24 to R36, R179(a), R181). -/

namespace Sys2Proof.Machine

/-! ## The ends of the poll steps -/

section PollSteps

variable {s : State} (P : State → Prop)

theorem boundaryStep_induct
    (stop : s.stopReq = true → P { clearBuffers s with
      running := false, stopReq := false, stopWaiting := 0
      cmdLog := s.cmdLog ++ List.replicate s.stopWaiting (Instr.cmdStop, CmdStatus.ok) })
    (poll : s.stopReq = false → P { s with phase := .rx, rxState := .hunt }) : P (boundaryStep s) := by
  unfold boundaryStep
  split
  · exact stop ‹_›
  · exact poll (Bool.eq_false_of_not_eq_true ‹_›)

theorem txStep_induct (quiet : P { s with phase := .hb })
    (sent : ∀ h rest, s.q = h :: rest → h.st = .idle → P { setHead
      { h with bytes := bytesToSend s.cfg s.sendSeq h, st := .sent, sentTime := s.now }
      (logTx (bytesToSend s.cfg s.sendSeq h) s) with phase := .hb })
    (fail : ∀ h rest, s.q = h :: rest → h.st = .idle →
      P (fatalReset .transportWrite (logTx (bytesToSend s.cfg s.sendSeq h) s))) : P (txStep s) := by
  unfold txStep
  split
  · exact quiet
  · split
    · exact quiet
    · exact sendThen_induct P (sent _ _ ‹_› ‹_›) (fail _ _ ‹_› ‹_›)

theorem hbStep_induct (quiet : P { s with phase := .rt })
    (probe : s.hbDeadline < s.now → s.probeCount ≤ s.cfg.probeLimit → P { logTx (uFrame s.cfg s.cfg.codeTest) s with
      probeCount := s.probeCount + 1, hbDeadline := s.now + s.cfg.timeHeart, phase := .rt })
    (exhausted : s.hbDeadline < s.now → s.cfg.probeLimit < s.probeCount → P (fatalReset .probeExhausted s))
    (fail : P (fatalReset .transportWrite (logTx (uFrame s.cfg s.cfg.codeTest) s))) : P (hbStep s) := by
  unfold hbStep
  split
  · split
    · exact exhausted ‹_› ‹_›
    · exact sendThen_induct P (probe ‹_› (Nat.not_lt.1 ‹_›)) fail
  · exact quiet

theorem retransmitDue_iff (s : State) (h : Entry) :
    retransmitDue s h = true ↔ h.st = .sent ∧ s.cfg.timeAlive < s.now - h.sentTime := by
  simp [retransmitDue]

theorem rtStep_induct (quiet : P (endOfPoll s))
    (resent : ∀ h rest, s.q = h :: rest → retransmitDue s h = true →
      P (endOfPoll (setHead { h with sentTime := s.now } (logTx h.bytes s))))
    (fail : ∀ h rest, s.q = h :: rest → retransmitDue s h = true →
      P (fatalReset .transportWrite (logTx h.bytes s))) : P (rtStep s) := by
  unfold rtStep
  split
  · exact quiet
  · split
    · exact sendThen_induct P (resent _ _ ‹_› ‹_›) (fail _ _ ‹_› ‹_›)
    · exact quiet

end PollSteps

/-! ## The ends of a host command -/

/-- A new entry: Idle and never stamped (R197, R198). -/
def Entry.Fresh (e : Entry) : Prop := e.st = .idle ∧ e.sentTime = 0

theorem prepareUFrame_fresh (c : Config) (code : Byte) : ∀ e ∈ [prepareUFrame c code], e.Fresh := by
  simp [Entry.Fresh, prepareUFrame]

theorem fragmentEntries_fresh (c : Config) (m : List Byte) : ∀ e ∈ fragmentEntries c m, e.Fresh := by
  simp [fragmentEntries, Entry.Fresh, prepareIFrame]

/-- A command's next state: one of the writes its rule names, if any, and the log entry of a completed command. -/
theorem exec_command_induct (P : State → Prop) {i : Instr} {s t : State} (hi : i.isCommand = true)
    (h : exec i s = .next t)
    (log : ∀ st u, P u → P (logCmd i st u))
    (same : P s)
    (start : P { s with running := true, hbDeadline := s.now + s.cfg.timeHeart, probeCount := 0 })
    (request : s.running = true → P { s with stopReq := true, stopWaiting := s.stopWaiting + 1 })
    (clear : P (clearBuffers s))
    (push : ∀ es : List Entry, (∀ e ∈ es, e.Fresh) → s.q.length + es.length ≤ s.cfg.queueDepth →
      P { s with q := s.q ++ es })
    (register : ∀ rx evt, P { s with rxCbEn := rx, evtCbEn := evt }) : P t := by
  have pushed {es : List Entry} (hes : ∀ e ∈ es, e.Fresh) : P (pushAll i es s) := by
    unfold pushAll
    split
    · exact log _ _ same
    · exact log _ _ (push es hes (Nat.not_lt.1 ‹_›))
  cases i <;> simp only [Instr.isCommand, Bool.false_eq_true] at hi <;> injection h with h <;> subst h
  case cmdStart =>
    apply log
    split
    · exact same
    · exact start
  case cmdStop =>
    split
    · exact request ‹_›
    · exact log _ _ clear
  case cmdBegin | cmdReset | cmdEnd => exact pushed (prepareUFrame_fresh _ _)
  case cmdSend => exact pushed (fragmentEntries_fresh _ _)
  case cmdRegRx => exact log _ _ (register _ s.evtCbEn)
  case cmdRegEvt => exact log _ _ (register s.rxCbEn _)

/-! ## The invariant through the shared operations -/

theorem fatalReset_inv {s : State} (h : s.Inv) (cause : FatalCause) : (fatalReset cause s).Inv :=
  { cfgWellFormed := h.cfgWellFormed
    onlyHeadSent := by simp
    queueBounded := by simp
    rbBounded := by simp
    rxConsistent := ⟨rfl, rfl⟩
    huntOutsideRx := fun _ => rfl
    probesBounded := by simp
    stoppedAtBoundary := fun _ => rfl
    stopWaits := h.stopWaits
    deadlineNear := le_rfl
    stampsPast := by simp
    faultRecorded := h.faultRecorded }

theorem logTx_inv {s : State} (h : s.Inv) (F : List Byte) : (logTx F s).Inv := { h with }

theorem logCmd_inv {s : State} (h : s.Inv) (i : Instr) (st : CmdStatus) : (logCmd i st s).Inv := { h with }

theorem fatalSend_inv {s : State} (h : s.Inv) (F : List Byte) : (fatalReset .transportWrite (logTx F s)).Inv :=
  fatalReset_inv (logTx_inv h F) _

theorem recognized_inv {s : State} (h : s.Inv) : (recognized s).Inv :=
  { h with deadlineNear := le_rfl, probesBounded := Nat.zero_le 3 }

theorem popHead_inv {s : State} (h : s.Inv) : (popHead s).Inv :=
  { h with
    onlyHeadSent := fun e he => h.onlyHeadSent e (List.mem_of_mem_tail he)
    queueBounded := (s.q.length_tail.trans_le (Nat.sub_le ..)).trans h.queueBounded
    stampsPast := fun e he => h.stampsPast e (List.mem_of_mem_tail he) }

theorem clearBuffers_inv {s : State} (h : s.Inv) : (clearBuffers s).Inv :=
  { h with
    onlyHeadSent := by simp
    queueBounded := Nat.zero_le _
    rbBounded := Nat.zero_le _
    stampsPast := by simp }

theorem setHead_inv {s : State} (hs : s.Inv) {h : Entry} {rest : List Entry} (hq : s.q = h :: rest) {h' : Entry}
    (hpast : h'.sentTime ≤ s.now) : (setHead h' s).Inv :=
  { hs with
    onlyHeadSent := hs.onlyHeadSent
    queueBounded := by simpa [hq] using hs.queueBounded
    stampsPast := by
      intro e he
      obtain rfl | he := List.mem_cons.1 he
      · exact hpast
      · exact hs.stampsPast e (List.mem_of_mem_tail he) }

theorem push_inv {s : State} (h : s.Inv) {es : List Entry} (hes : ∀ e ∈ es, e.Fresh)
    (hfit : s.q.length + es.length ≤ s.cfg.queueDepth) : ({ s with q := s.q ++ es } : State).Inv :=
  { h with
    onlyHeadSent := by
      intro e he
      have hmem : e ∈ s.q.tail ∨ e ∈ es := by
        cases hq : s.q with
        | nil => exact .inr (List.mem_of_mem_tail (by simpa [hq] using he))
        | cons a l => simpa [hq] using he
      exact hmem.elim (h.onlyHeadSent e) fun he => (hes e he).1
    queueBounded := by simpa using hfit
    stampsPast := by
      intro e he
      obtain he | he := List.mem_append.1 he
      · exact h.stampsPast e he
      · exact (hes e he).2.trans_le (Nat.zero_le _) }

/-! ## The invariant through a dispatch and a command -/

/-- A state within a dispatch: the ENGINE runs, and the synchronizer is cleared (R119). -/
structure State.Dispatching (s : State) : Prop where
  inv : s.Inv
  running : s.running = true
  hunting : s.rxState = .hunt

theorem State.Dispatching.endDispatch {s : State} (h : s.Dispatching) : (endDispatch s).Inv :=
  { h.inv with
    huntOutsideRx := fun _ => h.hunting
    stoppedAtBoundary := fun hr => absurd (h.running.symm.trans hr) (by decide) }

theorem emptyRb_inv {s : State} (h : s.Inv) : ({ s with recvSeq := 0, rb := [] } : State).Inv :=
  { h with rbBounded := Nat.zero_le _ }

theorem onFragment_inv {s : State} (h : s.Inv) (more : Bool) {p : List Byte}
    (hfit : s.rb.length + p.length ≤ s.cfg.reasmCapacity) : (onFragment p more s).Inv := by
  rw [onFragment_eq]
  refine { h with rbBounded := ?_ }
  cases more with
  | true => simpa using hfit
  | false => simp

theorem exec_frame_inv {i : Instr} {s t : State} (hi : i.isCommand = false) (h : exec i s = .next t)
    (hs : s.Dispatching) : t.Inv := by
  have hr : (recognized s).Dispatching := ⟨recognized_inv hs.inv, hs.running, hs.hunting⟩
  have hp : (popHead (recognized s)).Dispatching := ⟨popHead_inv hr.inv, hr.running, hr.hunting⟩
  refine exec_frame_induct State.Dispatching State.Inv hi h hr ?log ?event ?link ?clear ?pop ?restart ?ack ?accept
    ?fault ?fatal ?finish
  case log => exact fun F u hu _ _ => ⟨logTx_inv hu.inv F, hu.running, hu.hunting⟩
  case event => exact fun _ _ hu => ⟨{ hu.inv with }, hu.running, hu.hunting⟩
  case link => exact fun _ _ hu => ⟨{ hu.inv with }, hu.running, hu.hunting⟩
  case clear => exact fun F _ => ⟨emptyRb_inv (logTx_inv hr.inv F), hr.running, hr.hunting⟩
  case pop => exact fun _ _ => hp
  case restart => exact fun _ => ⟨{ hp.inv with }, hp.running, hp.hunting⟩
  case ack => exact fun _ => ⟨{ hp.inv with }, hp.running, hp.hunting⟩
  case accept =>
    exact fun more p hfit => ⟨{ onFragment_inv hr.inv more hfit with }, by simpa using hs.running, by simpa using hs.hunting⟩
  case fault => exact { hs.inv with faultRecorded := rfl }
  case fatal => exact fun c _ hu => fatalReset_inv hu.inv c
  case finish => exact fun _ hu => hu.endDispatch

theorem exec_command_inv {i : Instr} {s t : State} (hi : i.isCommand = true) (h : exec i s = .next t)
    (hs : s.Inv) : t.Inv := by
  refine exec_command_induct State.Inv hi h ?log hs ?start ?request (clearBuffers_inv hs) ?push ?register
  case log => exact fun st _ hu => logCmd_inv hu i st
  case start =>
    exact
      { hs with
        probesBounded := Nat.zero_le 3
        stoppedAtBoundary := nofun
        stopWaits := ⟨hs.stopWaits.1, fun _ => rfl⟩
        deadlineNear := le_rfl }
  case request => exact fun hr => { hs with stopWaits := ⟨by simp, fun _ => hr⟩ }
  case push => exact fun _ => push_inv hs
  case register => exact fun _ _ => { hs with }

/-! ## The invariant through the Framer -/

theorem discardPartial_inv {s : State} (h : s.Inv) : (discardPartial s).Inv :=
  { h with rxConsistent := ⟨rfl, rfl⟩, huntOutsideRx := fun _ => rfl }

/-- A field whole within the bytes kept so far reads the same after another byte. -/
theorem halfAt_append_of_lt {F : List Byte} {i : Nat} (h : i + 1 < F.length) (B : List Byte) :
    halfAt (F ++ B) i = halfAt F i := by
  unfold halfAt
  rw [List.getD_append _ _ _ _ (Nat.lt_of_succ_lt h), List.getD_append _ _ _ _ h]

theorem FramerMove.rxConsistent {v t : State} (h : FramerMove v t) (hv : v.RxConsistent) : t.RxConsistent := by
  cases h with
  | skip => exact hv
  | sync hx =>
    simp only [State.RxConsistent, hx] at hv ⊢
    exact ⟨trivial, hv.2⟩
  | typeI | typeU => simp [State.RxConsistent]
  | more b hhunt htype hneed =>
    cases hx : v.rxState with
    | hunt => exact absurd hx hhunt
    | type => exact absurd hx htype
    | bodyI =>
      simp only [State.RxConsistent, hx] at hv ⊢
      obtain ⟨-, hlong, hmark, hcount, hmax⟩ := hv
      rw [halfAt_append_of_lt hlong]
      exact ⟨by omega, by simp; omega, by simp [hmark], by simp; omega, hmax⟩
    | len | bodyU =>
      simp only [State.RxConsistent, hx] at hv ⊢
      obtain ⟨-, hcount, hmark⟩ := hv
      exact ⟨by omega, by simp; omega, by simp [hmark]⟩
  | body b hx hneed hlen =>
    simp only [State.RxConsistent, hx] at hv ⊢
    obtain ⟨hpos, hcount, hmark⟩ := hv
    exact ⟨by omega, by simp; omega, by simp [hmark], by simp; omega, hlen⟩

theorem FramerMove.inv {v t : State} (h : FramerMove v t) (hv : v.Inv) (hp : v.phase = .rx) : t.Inv := by
  have hc := h.rxConsistent hv.rxConsistent
  cases h <;> exact { hv with rxConsistent := hc, huntOutsideRx := fun hne => absurd hp hne }

theorem FramerEnd.inv {v t : State} (h : FramerEnd v t) (hv : v.Inv) (hp : v.phase = .rx) (hr : v.running = true) :
    t.Inv := by
  have hd : (discardPartial v).Dispatching := ⟨discardPartial_inv hv, hr, rfl⟩
  cases h with
  | move hm => exact hm.inv hv hp
  | discarded => exact hd.inv
  | dropped => exact hd.endDispatch
  | quiet hx => exact State.Dispatching.endDispatch ⟨hv, hr, hx⟩
  | readFailed => exact fatalReset_inv hv _
  | ran hi hx _ => exact exec_frame_inv hi.isCommand hx hd
  | faulted hi hx hf =>
    exact { hv with faultRecorded := hf.symm.trans (exec_frame_inv hi.isCommand hx hd).faultRecorded }

/-! ## The invariant through the poll steps -/

theorem boundaryStep_inv {s : State} (h : s.Inv) (hp : s.phase = .boundary) (hr : s.running = true) :
    (boundaryStep s).Inv := by
  apply boundaryStep_induct
  case stop =>
    intro _
    exact
      { clearBuffers_inv h with
        stoppedAtBoundary := fun _ => hp
        stopWaits := by simp }
  case poll =>
    intro _
    have hx := h.huntOutsideRx (by simp [hp])
    exact
      { h with
        rxConsistent := by simpa only [State.RxConsistent, hx] using h.rxConsistent
        huntOutsideRx := fun _ => rfl
        stoppedAtBoundary := fun hr' => absurd (hr.symm.trans hr') (by decide) }

/-- A running ENGINE outside phase 1 may be in any phase. -/
theorem withPhase_inv {s : State} (h : s.Inv) (hr : s.running = true) (hx : s.rxState = .hunt) (p : Phase) :
    ({ s with phase := p } : State).Inv :=
  { h with
    huntOutsideRx := fun _ => hx
    stoppedAtBoundary := fun hr' => absurd (hr.symm.trans hr') (by decide) }

theorem txStep_inv {s : State} (h : s.Inv) (hr : s.running = true) (hx : s.rxState = .hunt) : (txStep s).Inv := by
  apply txStep_induct
  case quiet => exact withPhase_inv h hr hx _
  case sent => exact fun e rest hq _ => withPhase_inv (setHead_inv (logTx_inv h _) hq le_rfl) hr hx _
  case fail => exact fun _ _ _ _ => fatalSend_inv h _

theorem hbStep_inv {s : State} (h : s.Inv) (hr : s.running = true) (hx : s.rxState = .hunt) : (hbStep s).Inv := by
  apply hbStep_induct
  case quiet => exact withPhase_inv h hr hx _
  case probe =>
    exact fun _ hprobes =>
      { withPhase_inv h hr hx .rt with probesBounded := Nat.succ_le_succ hprobes, deadlineNear := le_rfl }
  case exhausted => exact fun _ _ => fatalReset_inv h _
  case fail => exact fatalSend_inv h _

theorem endOfPoll_inv {s : State} (h : s.Inv) (hx : s.rxState = .hunt) : (endOfPoll s).Inv :=
  { h with huntOutsideRx := fun _ => hx, stoppedAtBoundary := fun _ => rfl }

theorem rtStep_inv {s : State} (h : s.Inv) (hx : s.rxState = .hunt) : (rtStep s).Inv := by
  apply rtStep_induct
  case quiet => exact endOfPoll_inv h hx
  case resent => exact fun e rest hq _ => endOfPoll_inv (setHead_inv (logTx_inv h _) hq le_rfl) hx
  case fail => exact fun _ _ _ _ => fatalSend_inv h _

/-! ## The invariant through a step -/

theorem withDraws_inv {s : State} (h : s.Inv) (r : ReadAnswer) (w : WriteResult) :
    ({ s with rxDraw := r, txDraw := w } : State).Inv := { h with }

theorem MoveEnd.inv {u t : State} (h : MoveEnd u t) (hu : u.Inv) : t.Inv := by
  have hunting (hp : u.phase ≠ .rx) : u.rxState = .hunt := hu.huntOutsideRx hp
  cases h with
  | command hi hx => exact exec_command_inv hi hx hu
  | refused => exact { hu with }
  | disabled => exact hu
  | clock d =>
    exact
      { hu with
        deadlineNear := hu.deadlineNear.trans (Nat.add_le_add_right (Nat.le_add_right ..) _)
        stampsPast := fun e he => (hu.stampsPast e he).trans (Nat.le_add_right ..) }
  | boundary r w hr _ hp => exact boundaryStep_inv (withDraws_inv hu r w) hp hr
  | rx r w hr _ hp he => exact he.inv (withDraws_inv hu r w) hp hr
  | tx r w hr _ hp => exact txStep_inv (withDraws_inv hu r w) hr (hunting (by simp [hp]))
  | hb r w hr _ hp => exact hbStep_inv (withDraws_inv hu r w) hr (hunting (by simp [hp]))
  | rt r w _ _ hp => exact rtStep_inv (withDraws_inv hu r w) (hunting (by simp [hp]))

/-- A step is a move that starts with the drawn action off the schedule. -/
theorem step_drawn {s t : State} (h : step s = .next t) :
    ∃ sched turn, MoveEnd { s with sched := sched, turn := turn } t := by
  obtain ⟨sched, turn, hdraw⟩ := afterDraw_eq s
  exact ⟨sched, turn, hdraw ▸ (step_end h).1⟩

/-- Settles O18: the invariant speaks of no schedule, and every end of a move keeps it. -/
theorem everyStepKeepsTheInvariant : Obligations.EveryStepKeepsTheInvariant := by
  intro s s' h hstep
  obtain ⟨sched, turn, hmove⟩ := step_drawn hstep
  exact hmove.inv { h with }

/-- Settles O3: after reset the queue and the buffers are empty, and the synchronizer hunts at the boundary. -/
theorem resetStateMeetsTheInvariant : Obligations.ResetStateMeetsTheInvariant :=
  fun _ _ _ hc =>
    ⟨{ cfgWellFormed := hc
       onlyHeadSent := nofun
       queueBounded := Nat.zero_le _
       rbBounded := Nat.zero_le _
       rxConsistent := ⟨rfl, rfl⟩
       huntOutsideRx := fun _ => rfl
       probesBounded := Nat.zero_le _
       stoppedAtBoundary := fun _ => rfl
       stopWaits := ⟨by simp [State.resetWith], nofun⟩
       deadlineNear := Nat.zero_le _
       stampsPast := nofun
       faultRecorded := rfl }, nofun⟩

end Sys2Proof.Machine
end

section
/-! SUPPORT. What a step does to the logs, to the queue and the sequence numbers, to the HOST's side and under a fault, and the settled statements on them (R22, R23, R31, R35, R36, R40). -/

namespace Sys2Proof.Machine

/-! ## The logs (R35) -/

/-- Every log of `s` is the beginning of that log of `t`. -/
def LogsGrow (s t : State) : Prop :=
  s.txLog <+: t.txLog ∧ s.evLog <+: t.evLog ∧ s.msgLog <+: t.msgLog ∧ s.cmdLog <+: t.cmdLog

theorem LogsGrow.refl (s : State) : LogsGrow s s :=
  ⟨List.prefix_rfl, List.prefix_rfl, List.prefix_rfl, List.prefix_rfl⟩

theorem LogsGrow.trans {s t u : State} (h : LogsGrow s t) (h' : LogsGrow t u) : LogsGrow s u := by
  obtain ⟨htx, hev, hmsg, hcmd⟩ := h
  obtain ⟨htx', hev', hmsg', hcmd'⟩ := h'
  exact ⟨htx.trans htx', hev.trans hev', hmsg.trans hmsg', hcmd.trans hcmd'⟩

theorem prefix_ite_append {α : Type} {c : Prop} [Decidable c] (l m : List α) : l <+: if c then l ++ m else l := by
  split
  · exact List.prefix_append ..
  · exact List.prefix_rfl

variable {s t : State}

theorem LogsGrow.logTx (h : LogsGrow s t) (F : List Byte) : LogsGrow s (logTx F t) :=
  h.trans { LogsGrow.refl t with left := List.prefix_append .. }

theorem LogsGrow.emit (h : LogsGrow s t) (ev : Event) : LogsGrow s (emit ev t) :=
  h.trans ⟨List.prefix_rfl, prefix_ite_append .., List.prefix_rfl, List.prefix_rfl⟩

theorem LogsGrow.logCmd (h : LogsGrow s t) (i : Instr) (st : CmdStatus) : LogsGrow s (logCmd i st t) :=
  h.trans ⟨List.prefix_rfl, List.prefix_rfl, List.prefix_rfl, List.prefix_append ..⟩

theorem LogsGrow.fatalReset (h : LogsGrow s t) (cause : FatalCause) : LogsGrow s (fatalReset cause t) :=
  h.emit .linkBroken

theorem onFragment_logsGrow (chunk : List Byte) (more : Bool) (s : State) : LogsGrow s (onFragment chunk more s) := by
  rw [onFragment_eq]
  exact ⟨List.prefix_rfl, List.prefix_rfl, prefix_ite_append .., List.prefix_rfl⟩

theorem exec_frame_logsGrow {i : Instr} (hi : i.isCommand = false) (h : exec i s = .next t) : LogsGrow s t := by
  refine exec_frame_induct (LogsGrow s) (LogsGrow s) hi h (.refl s) ?log ?event ?link ?clear ?pop ?restart ?ack
    ?accept (.refl s) ?fatal ?finish
  case log => exact fun F _ hu _ _ => hu.logTx F
  case event => exact fun ev _ hu => hu.emit ev
  case link => exact fun _ _ hu => hu
  case clear => exact fun F _ => (LogsGrow.refl s).logTx F
  case pop => exact fun _ _ => .refl s
  case restart => exact fun _ => .refl s
  case ack => exact fun _ => .refl s
  case accept => exact fun more p _ => onFragment_logsGrow p more (recognized s)
  case fatal => exact fun c _ hu => hu.fatalReset c
  case finish => exact fun _ hu => hu

theorem exec_command_logsGrow {i : Instr} (hi : i.isCommand = true) (h : exec i s = .next t) : LogsGrow s t :=
  exec_command_induct (LogsGrow s) hi h (fun st _ hu => hu.logCmd i st) (.refl s) (.refl s) (fun _ => .refl s) (.refl s)
    (fun _ _ _ => .refl s) (fun _ _ => .refl s)

theorem FramerEnd.logsGrow (h : FramerEnd s t) : LogsGrow s t := by
  cases h with
  | move hm => cases hm <;> exact .refl s
  | discarded | dropped | quiet | faulted => exact .refl s
  | readFailed => exact (LogsGrow.refl s).fatalReset _
  | ran hi hx _ => exact (exec_frame_logsGrow hi.isCommand hx :)

theorem fatalSend_logsGrow (s : State) (F : List Byte) : LogsGrow s (fatalReset .transportWrite (logTx F s)) :=
  ((LogsGrow.refl s).logTx F).fatalReset _

theorem boundaryStep_logsGrow (s : State) : LogsGrow s (boundaryStep s) :=
  boundaryStep_induct (LogsGrow s)
    (fun _ => ⟨List.prefix_rfl, List.prefix_rfl, List.prefix_rfl, List.prefix_append ..⟩) (fun _ => .refl s)

theorem txStep_logsGrow (s : State) : LogsGrow s (txStep s) :=
  txStep_induct (LogsGrow s) (.refl s) (fun _ _ _ _ => (LogsGrow.refl s).logTx _) (fun _ _ _ _ => fatalSend_logsGrow s _)

theorem hbStep_logsGrow (s : State) : LogsGrow s (hbStep s) :=
  hbStep_induct (LogsGrow s) (.refl s) (fun _ _ => (LogsGrow.refl s).logTx _)
    (fun _ _ => (LogsGrow.refl s).fatalReset _) (fatalSend_logsGrow s _)

theorem rtStep_logsGrow (s : State) : LogsGrow s (rtStep s) :=
  rtStep_induct (LogsGrow s) (.refl s) (fun _ _ _ _ => (LogsGrow.refl s).logTx _) (fun _ _ _ _ => fatalSend_logsGrow s _)

theorem MoveEnd.logsGrow (h : MoveEnd s t) : LogsGrow s t := by
  cases h with
  | command hi hx => exact exec_command_logsGrow hi hx
  | refused | disabled | clock => exact .refl s
  | boundary r w => exact boundaryStep_logsGrow { s with rxDraw := r, txDraw := w }
  | rx r w _ _ _ he => exact he.logsGrow
  | tx r w => exact txStep_logsGrow { s with rxDraw := r, txDraw := w }
  | hb r w => exact hbStep_logsGrow { s with rxDraw := r, txDraw := w }
  | rt r w => exact rtStep_logsGrow { s with rxDraw := r, txDraw := w }

/-- Settles O22: every end of a move appends to the logs and rewrites none of their entries. -/
theorem logsAreAppendOnly : Obligations.LogsAreAppendOnly := by
  intro s s' h
  obtain ⟨sched, turn, hmove⟩ := step_drawn h
  exact hmove.logsGrow

/-! ## The queue and the sequence numbers (R22, R23, R31) -/

/-- The values that a step without a fatal condition can leave in `send_seq`, `recv_seq` and the queue, by the rule that writes them. -/
inductive SeqQueueChange (s : State) : Half → Half → List Entry → Prop where
  /-- A command's entries at the tail, or none (R67). -/
  | pushed (es : List Entry) : SeqQueueChange s s.sendSeq s.recvSeq (s.q ++ es)
  /-- A matched confirm other than RESET-CONFIRM (R153). -/
  | popped : SeqQueueChange s s.sendSeq s.recvSeq s.q.tail
  /-- The completion of CMD_STOP (R192). -/
  | cleared : SeqQueueChange s s.sendSeq s.recvSeq []
  /-- The head transmitted (R173, R176). -/
  | stamped {h h' : Entry} {rest : List Entry} : s.q = h :: rest → h'.kind = h.kind → h'.st = .sent →
      h'.sentTime = s.now → SeqQueueChange s s.sendSeq s.recvSeq (h' :: s.q.tail)
  /-- The Sent I-frame acknowledged (R152). -/
  | acknowledged : HeadIsSentIFrame s → SeqQueueChange s (s.sendSeq + 1#16) s.recvSeq s.q.tail
  /-- A matched RESET-CONFIRM (R144). -/
  | restarted : HeadIsSentControl s.cfg.codeReset s → SeqQueueChange s 0x0001#16 s.recvSeq s.q.tail
  /-- An I-frame accepted (R150). -/
  | accepted : SeqQueueChange s s.sendSeq (s.recvSeq + 1#16) s.q
  /-- A received RESET (R143). -/
  | peerReset : SeqQueueChange s s.sendSeq 0x0000#16 s.q

theorem SeqQueueChange.refl (s : State) : SeqQueueChange s s.sendSeq s.recvSeq s.q := by
  simpa using SeqQueueChange.pushed (s := s) []

/-- How a step ends, by what it does to the sequence numbers and the queue. -/
inductive SeqQueueEnd (s : State) : State → Prop where
  | change {t : State} : SeqQueueChange s t.sendSeq t.recvSeq t.q → SeqQueueEnd s t
  | fatal (cause : FatalCause) (u : State) : SeqQueueEnd s (fatalReset cause u)

theorem exec_frame_seqQueueEnd {i : Instr} {r : ReadAnswer} {w : WriteResult} (hi : i.isCommand = false)
    (h : exec i (discardPartial { s with rxDraw := r, txDraw := w }) = .next t) : SeqQueueEnd s t := by
  refine exec_frame_induct (fun u => SeqQueueChange s u.sendSeq u.recvSeq u.q) (SeqQueueEnd s) hi h (.refl s) ?log
    ?event ?link ?clear ?pop ?restart ?ack ?accept (.change (.refl s)) ?fatal ?finish
  case log => exact fun _ _ hu _ _ => hu
  case event => exact fun _ _ hu => hu
  case link => exact fun _ _ hu => hu
  case clear => exact fun _ _ => .peerReset
  case pop => exact fun _ _ => .popped
  case restart => exact SeqQueueChange.restarted (s := s)
  case ack => exact SeqQueueChange.acknowledged (s := s)
  case accept =>
    intro more p _
    simp only [onFragment_sendSeq, onFragment_q]
    exact .accepted
  case fatal => exact fun c u _ => .fatal c u
  case finish => exact fun _ hu => .change hu

theorem exec_command_seqQueueChange {i : Instr} (hi : i.isCommand = true) (h : exec i s = .next t) :
    SeqQueueChange s t.sendSeq t.recvSeq t.q :=
  exec_command_induct (fun u => SeqQueueChange s u.sendSeq u.recvSeq u.q) hi h (fun _ _ hu => hu) (.refl s) (.refl s)
    (fun _ => .refl s) .cleared (fun es _ _ => .pushed es) (fun _ _ => .refl s)

theorem FramerEnd.seqQueueEnd {r : ReadAnswer} {w : WriteResult}
    (h : FramerEnd { s with rxDraw := r, txDraw := w } t) : SeqQueueEnd s t := by
  cases h with
  | move hm => cases hm <;> exact .change (.refl s)
  | discarded | dropped | quiet | faulted => exact .change (.refl s)
  | readFailed => exact .fatal ..
  | ran hi hx _ => exact exec_frame_seqQueueEnd hi.isCommand hx

/-- What a move does to the sequence numbers and the queue. -/
theorem MoveEnd.seqQueueEnd (h : MoveEnd s t) : SeqQueueEnd s t := by
  cases h with
  | command hi hx => exact .change (exec_command_seqQueueChange hi hx)
  | refused | disabled | clock => exact .change (.refl s)
  | boundary r w =>
    exact boundaryStep_induct (SeqQueueEnd s) (fun _ => .change .cleared) (fun _ => .change (.refl s))
  | rx r w _ _ _ he => exact he.seqQueueEnd
  | tx r w =>
    exact txStep_induct (SeqQueueEnd s) (.change (.refl s))
      (fun _ _ hq _ => .change (.stamped (s := s) hq rfl rfl rfl)) (fun _ _ _ _ => .fatal ..)
  | hb r w =>
    exact hbStep_induct (SeqQueueEnd s) (.change (.refl s)) (fun _ _ => .change (.refl s)) (fun _ _ => .fatal ..)
      (.fatal ..)
  | rt r w =>
    exact rtStep_induct (SeqQueueEnd s) (.change (.refl s))
      (fun e _ hq hdue => .change (.stamped (s := s) hq rfl ((retransmitDue_iff _ e).1 hdue).1 rfl))
      (fun _ _ _ _ => .fatal ..)

section ChangedValues

variable {sendSeq recvSeq : Half} {q : List Entry} (h : SeqQueueChange s sendSeq recvSeq q)

include h

/-- A stamp alone is neither a push, a pop nor a clearing. -/
theorem SeqQueueChange.queue_cases :
    q = [] ∨ q = s.q.tail ∨ (∃ es, q = s.q ++ es) ∨
      ∃ h h' rest, s.q = h :: rest ∧ q = h' :: rest ∧ h'.kind = h.kind ∧ h'.st = .sent ∧ h'.sentTime = s.now := by
  cases h with
  | cleared => exact .inl rfl
  | popped | acknowledged | restarted => exact .inr (.inl rfl)
  | pushed es => exact .inr (.inr (.inl ⟨es, rfl⟩))
  | accepted | peerReset => exact .inr (.inr (.inl ⟨[], (List.append_nil _).symm⟩))
  | stamped hq hkind hst htime =>
    exact .inr (.inr (.inr ⟨_, _, _, hq, congrArg (_ :: ·) (congrArg List.tail hq), hkind, hst, htime⟩))

theorem SeqQueueChange.sendSeq_cases :
    sendSeq = s.sendSeq ∨ (HeadIsSentIFrame s ∧ sendSeq = s.sendSeq + 1#16 ∧ q = s.q.tail) ∨
      (HeadIsSentControl s.cfg.codeReset s ∧ sendSeq = 0x0001#16 ∧ q = s.q.tail) := by
  cases h with
  | acknowledged hhead => exact .inr (.inl ⟨hhead, rfl, rfl⟩)
  | restarted hhead => exact .inr (.inr ⟨hhead, rfl, rfl⟩)
  | pushed | popped | cleared | stamped | accepted | peerReset => exact .inl rfl

theorem SeqQueueChange.recvSeq_cases :
    recvSeq = s.recvSeq ∨ recvSeq = s.recvSeq + 1#16 ∨ recvSeq = 0x0000#16 := by
  cases h with
  | accepted => exact .inr (.inl rfl)
  | peerReset => exact .inr (.inr rfl)
  | pushed | popped | cleared | stamped | acknowledged | restarted => exact .inl rfl

end ChangedValues

/-- Settles O23: a fatal reset empties the queue, and every other writer works at one of its ends. -/
theorem queueChangesOnlyAtItsEnds : Obligations.QueueChangesOnlyAtItsEnds := by
  intro s s' h
  obtain ⟨sched, turn, hmove⟩ := step_drawn h
  cases hmove.seqQueueEnd with
  | fatal => exact .inl rfl
  | change hc => exact hc.queue_cases

/-- Settles O24: without a fatal reset, only the acknowledgment and a matching RESET-CONFIRM write `send_seq`. -/
theorem sendSeqChangesOnlyByItsThreeWriters : Obligations.SendSeqChangesOnlyByItsThreeWriters := by
  intro s s' h
  obtain ⟨sched, turn, hmove⟩ := step_drawn h
  cases hmove.seqQueueEnd with
  | fatal => exact .inr (.inr (.inr ⟨rfl, rfl, rfl, rfl⟩))
  | change hc => exact hc.sendSeq_cases.imp_right (Or.imp_right .inl)

/-- Settles O25: only an accepted I-frame advances `recv_seq`; a received RESET and a fatal reset clear it. -/
theorem recvSeqStaysAdvancesByOneOrClears : Obligations.RecvSeqStaysAdvancesByOneOrClears := by
  intro s s' h
  obtain ⟨sched, turn, hmove⟩ := step_drawn h
  cases hmove.seqQueueEnd with
  | fatal => exact .inr (.inr rfl)
  | change hc => exact hc.recvSeq_cases

/-! ## What a received frame leaves to the HOST (R40, R154, R223) -/

/-- `t` has the inputs and the HOST's side of `s`: the parameters, the draws, the controls, the command log and the refusal mark. -/
def SameHostSide (s t : State) : Prop :=
  t.cfg = s.cfg ∧ t.now = s.now ∧ t.sched = s.sched ∧ t.turn = s.turn ∧ t.rxDraw = s.rxDraw ∧ t.txDraw = s.txDraw ∧
  t.running = s.running ∧ t.stopReq = s.stopReq ∧ t.stopWaiting = s.stopWaiting ∧ t.rxCbEn = s.rxCbEn ∧
  t.evtCbEn = s.evtCbEn ∧ t.cmdLog = s.cmdLog ∧ t.refused = s.refused

theorem SameHostSide.refl (s : State) : SameHostSide s s := by simp [SameHostSide]

theorem exec_frame_sameHostSide {i : Instr} (hi : i.isCommand = false) (h : exec i s = .next t) : SameHostSide s t := by
  refine exec_frame_induct (SameHostSide s) (SameHostSide s) hi h (.refl s) ?log ?event ?link ?clear ?pop ?restart ?ack
    ?accept (.refl s) ?fatal ?finish
  case log => exact fun _ _ hu _ _ => hu
  case event => exact fun _ _ hu => hu
  case link => exact fun _ _ hu => hu
  case clear => exact fun _ _ => .refl s
  case pop => exact fun _ _ => .refl s
  case restart => exact fun _ => .refl s
  case ack => exact fun _ => .refl s
  case accept =>
    intro more p _
    rw [onFragment_eq]
    exact .refl s
  case fatal => exact fun _ _ hu => hu
  case finish => exact fun _ hu => hu

/-- Settles O29: none of the operations that a received frame is built from writes the HOST's side. -/
theorem receivedFramesLeaveTheHostControlsAlone : Obligations.ReceivedFramesLeaveTheHostControlsAlone :=
  fun _ _ _ hi h => exec_frame_sameHostSide hi h

/-! ## After a fault (R36, R226) -/

/-- `t` has the fault mark and the ENGINE's outputs, phase and counters of `s`. -/
def SameEngineSide (s t : State) : Prop :=
  t.fault = s.fault ∧ t.faultReason = s.faultReason ∧ t.txLog = s.txLog ∧ t.msgLog = s.msgLog ∧
  t.evLog = s.evLog ∧ t.phase = s.phase ∧ t.sendSeq = s.sendSeq ∧ t.recvSeq = s.recvSeq

theorem SameEngineSide.refl (s : State) : SameEngineSide s s := by simp [SameEngineSide]

theorem exec_command_sameEngineSide {i : Instr} (hi : i.isCommand = true) (h : exec i s = .next t) :
    SameEngineSide s t :=
  exec_command_induct (SameEngineSide s) hi h (fun _ _ hu => hu) (.refl s) (.refl s) (fun _ => .refl s) (.refl s)
    (fun _ _ _ => .refl s) (fun _ _ => .refl s)

/-- With the ENGINE disabled by the fault, only HOST and CLOCK move. -/
theorem MoveEnd.sameEngineSide_of_fault (h : MoveEnd s t) (hf : s.fault = true) : SameEngineSide s t := by
  cases h with
  | command hi hx => exact exec_command_sameEngineSide hi hx
  | refused | disabled | clock => exact .refl s
  | boundary _ _ _ hno | rx _ _ _ hno | tx _ _ _ hno | hb _ _ _ hno | rt _ _ _ hno => simp [hf] at hno

/-- Settles O30: HOST and CLOCK, which alone move after a fault, write nothing of the ENGINE's. -/
theorem aFaultIsStickyAndSilencesTheEngine : Obligations.AFaultIsStickyAndSilencesTheEngine := by
  intro s s' hf h
  obtain ⟨sched, turn, hmove⟩ := step_drawn h
  obtain ⟨hfault, hrest⟩ := hmove.sameEngineSide_of_fault hf
  exact ⟨hfault.trans hf, hrest⟩

end Sys2Proof.Machine
end

section
/-! SUPPORT. Two runs from states that differ in `link_state` alone, and the settled statement that it gates nothing (R26, R155, C9). -/

namespace Sys2Proof.Machine

/-! ## States and outcomes up to `link_state` -/

/-- `s` with `link_state` set to `l`. -/
def relink (l : LinkState) (s : State) : State := { s with linkState := l }

/-- `t` is `s` but for `link_state`. -/
def SameButLink (s t : State) : Prop := ∃ l, t = relink l s

/-- Both outcomes are next states, the same but for `link_state`. -/
inductive NextSameButLink : Outcome → Outcome → Prop where
  | next {s t : State} : SameButLink s t → NextSameButLink (.next s) (.next t)

theorem NextSameButLink.eq_next {s : State} {o : Outcome} (h : NextSameButLink (.next s) o) :
    ∃ l, o = .next (relink l s) := by
  obtain ⟨l, rfl⟩ := h
  exact ⟨l, rfl⟩

/-- What `f` writes outside `link_state` does not depend on `link_state`. -/
def LinkBlind (f : State → State) : Prop := ∀ s l, SameButLink (f s) (f (relink l s))

theorem LinkBlind.apply {f : State → State} (hf : LinkBlind f) {s t : State} (h : SameButLink s t) :
    SameButLink (f s) (f t) := by
  obtain ⟨l, rfl⟩ := h
  exact hf s l

theorem ite_sameButLink {c : Prop} [Decidable c] {s t s' t' : State} (h : SameButLink s t) (h' : SameButLink s' t') :
    SameButLink (if c then s else s') (if c then t else t') := by
  split <;> assumption

theorem ite_nextSameButLink {c : Prop} [Decidable c] {o p o' p' : Outcome} (h : NextSameButLink o p)
    (h' : NextSameButLink o' p') : NextSameButLink (if c then o else o') (if c then p else p') := by
  split <;> assumption

/-! ## The shared operations -/

theorem endDispatch_linkBlind : LinkBlind endDispatch := fun _ l => ⟨l, rfl⟩

theorem endOfPoll_linkBlind : LinkBlind endOfPoll := fun _ l => ⟨l, rfl⟩

theorem logCmd_linkBlind (i : Instr) (st : CmdStatus) : LinkBlind (logCmd i st) := fun _ l => ⟨l, rfl⟩

theorem fatalReset_linkBlind (cause : FatalCause) : LinkBlind (fatalReset cause) := fun _ _ => ⟨.reset, rfl⟩

theorem sendThen_linkBlind (F : List Byte) {rest : State → State} (h : LinkBlind rest) : LinkBlind (sendThen F rest) := by
  intro s l
  have hlog : SameButLink (logTx F s) (logTx F (relink l s)) := ⟨l, rfl⟩
  have hwrite : txWrite (wireUnit (relink l s).cfg F) (relink l s) = txWrite (wireUnit s.cfg F) s := rfl
  simp only [sendThen, hwrite]
  cases txWrite (wireUnit s.cfg F) s with
  | ok => exact h.apply hlog
  | fail => exact (fatalReset_linkBlind _).apply hlog

theorem replyThen_linkBlind (confirm : Byte) {rest : State → State} (h : LinkBlind rest) :
    LinkBlind (replyThen confirm rest) := by
  intro s l
  have hrest : LinkBlind fun t => endDispatch (rest t) := fun t l => endDispatch_linkBlind.apply (h t l)
  exact (sendThen_linkBlind (uFrame s.cfg confirm) hrest).apply ⟨l, rfl⟩

theorem confirmThen_linkBlind (act : Byte) {rest : State → State} (h : LinkBlind rest) :
    LinkBlind (confirmThen act rest) := by
  intro s l
  have hpop : SameButLink (popHead (recognized s)) (popHead (recognized (relink l s))) := ⟨l, rfl⟩
  exact endDispatch_linkBlind.apply (ite_sameButLink (c := headConfirmedBy act s = true) (h.apply hpop) ⟨l, rfl⟩)

theorem acceptI_linkBlind (seq : Half) (more : Bool) (p : List Byte) : LinkBlind (acceptI seq more p) := by
  intro s l
  refine (sendThen_linkBlind (aFrameBytes s.cfg) endDispatch_linkBlind).apply ⟨l, ?_⟩
  rw [onFragment_eq, onFragment_eq]
  rfl

theorem pushAll_linkBlind (i : Instr) (es : List Entry) : LinkBlind (pushAll i es) :=
  fun s l => ite_sameButLink (c := s.q.length + es.length > s.cfg.queueDepth) ⟨l, rfl⟩ ⟨l, rfl⟩

/-! ## The instructions -/

theorem execIFrame_sameButLink (seq : Half) (more : Bool) (p : List Byte) (s : State) (l : LinkState) :
    NextSameButLink (execIFrame seq more p s) (execIFrame seq more p (relink l s)) :=
  ite_nextSameButLink (c := seq = s.recvSeq + 1#16)
    (ite_nextSameButLink (c := fragmentOverflows p s = true) (.next ⟨l, rfl⟩) (.next (acceptI_linkBlind seq more p s l)))
    (.next ((fatalReset_linkBlind _).apply ⟨l, rfl⟩))

theorem exec_sameButLink (i : Instr) (s : State) (l : LinkState) : NextSameButLink (exec i s) (exec i (relink l s)) := by
  have popped : SameButLink (popHead (recognized s)) (popHead (recognized (relink l s))) := ⟨l, rfl⟩
  cases i
  case iFrame seq more p => exact execIFrame_sameButLink ..
  case aFrame =>
    exact .next (endDispatch_linkBlind.apply (ite_sameButLink (c := headIsSentI s = true) ⟨l, rfl⟩ ⟨l, rfl⟩))
  case uStart => exact .next (replyThen_linkBlind _ (fun _ _ => ⟨.active, rfl⟩) s l)
  case uStop => exact .next (replyThen_linkBlind _ (fun _ _ => ⟨.stopped, rfl⟩) s l)
  case uReset | uTest => exact .next (replyThen_linkBlind _ (fun _ l => ⟨l, rfl⟩) s l)
  case uStartCon => exact .next (confirmThen_linkBlind _ (fun _ _ => ⟨.active, rfl⟩) s l)
  case uStopCon => exact .next (confirmThen_linkBlind _ (fun _ _ => ⟨.stopped, rfl⟩) s l)
  case uResetCon => exact .next (confirmThen_linkBlind _ (fun _ l => ⟨l, rfl⟩) s l)
  case uTestCon =>
    exact .next (endDispatch_linkBlind.apply
      (ite_sameButLink (c := headConfirmedBy s.cfg.codeTest s = true) ⟨l, rfl⟩ ⟨l, rfl⟩))
  case cmdStart =>
    exact .next ((logCmd_linkBlind _ _).apply (ite_sameButLink (c := s.running = true) ⟨l, rfl⟩ ⟨l, rfl⟩))
  case cmdStop => exact .next (ite_sameButLink (c := s.running = true) ⟨l, rfl⟩ ⟨l, rfl⟩)
  case cmdBegin | cmdReset | cmdEnd | cmdSend => exact .next (pushAll_linkBlind _ _ s l)
  case cmdRegRx | cmdRegEvt => exact .next ⟨l, rfl⟩

/-! ## The Framer -/

theorem keepOnlyFault_sameButLink (before : State) (l : LinkState) {o p : Outcome} (h : NextSameButLink o p) :
    NextSameButLink (keepOnlyFault before o) (keepOnlyFault (relink l before) p) := by
  cases h with
  | @next t _ ht =>
    obtain ⟨l', rfl⟩ := ht
    exact ite_nextSameButLink (c := t.fault = true) (.next ⟨l, rfl⟩) (.next ⟨l', rfl⟩)

theorem complete_sameButLink (F : List Byte) (s : State) (l : LinkState) :
    NextSameButLink (complete F s) (complete F (relink l s)) := by
  have hdecode : decodeFrame (relink l s).cfg F = decodeFrame s.cfg F := rfl
  have hdiscard : discardPartial (relink l s) = relink l (discardPartial s) := rfl
  simp only [complete, hdecode, hdiscard]
  cases decodeFrame s.cfg F with
  | reject e => exact .next ⟨l, rfl⟩
  | ok i =>
    exact keepOnlyFault_sameButLink s l (exec_sameButLink i (discardPartial s) l)

theorem typeByte_sameButLink (b : Byte) (s : State) (l : LinkState) :
    NextSameButLink (typeByte b s) (typeByte b (relink l s)) :=
  ite_nextSameButLink (c := b = s.cfg.iMark) (.next ⟨l, rfl⟩)
    (ite_nextSameButLink (c := b = s.cfg.uMark) (.next ⟨l, rfl⟩)
      (ite_nextSameButLink (c := b = s.cfg.aMark) (complete_sameButLink [b] s l) (.next ⟨l, rfl⟩)))

theorem huntByte_linkBlind (b : Byte) : LinkBlind (huntByte b) :=
  fun s l => ite_sameButLink (c := b = s.cfg.sync) ⟨l, rfl⟩ ⟨l, rfl⟩

theorem lenByte_linkBlind (b : Byte) : LinkBlind (lenByte b) :=
  fun s l => ite_sameButLink (c := s.rxNeed - 1 = 0)
    (ite_sameButLink (c := lengthOf (halfAt (s.rxBuf ++ [b]) 1) > s.cfg.rxMaxPayload) ⟨l, rfl⟩ ⟨l, rfl⟩) ⟨l, rfl⟩

theorem bodyByte_sameButLink (b : Byte) (s : State) (l : LinkState) :
    NextSameButLink (bodyByte b s) (bodyByte b (relink l s)) :=
  ite_nextSameButLink (c := s.rxNeed - 1 = 0) (complete_sameButLink (s.rxBuf ++ [b]) s l) (.next ⟨l, rfl⟩)

theorem framerStep_sameButLink (s : State) (l : LinkState) :
    NextSameButLink (framerStep s) (framerStep (relink l s)) := by
  have hdraw : (relink l s).rxDraw = s.rxDraw := rfl
  have hstate : (relink l s).rxState = s.rxState := rfl
  simp only [framerStep, framerByte, framerTimeout, hdraw, hstate]
  cases s.rxDraw with
  | error => exact .next (fatalReset_linkBlind _ s l)
  | timeout => cases s.rxState <;> exact .next ⟨l, rfl⟩
  | byte b =>
    cases s.rxState with
    | hunt => exact .next (huntByte_linkBlind b s l)
    | type => exact typeByte_sameButLink b s l
    | len => exact .next (lenByte_linkBlind b s l)
    | bodyI | bodyU => exact bodyByte_sameButLink b s l

/-! ## The poll steps and the moves -/

theorem boundaryStep_linkBlind : LinkBlind boundaryStep :=
  fun s l => ite_sameButLink (c := s.stopReq = true) ⟨l, rfl⟩ ⟨l, rfl⟩

theorem txStep_linkBlind : LinkBlind txStep := by
  intro s l
  have hq : (relink l s).q = s.q := rfl
  simp only [txStep, hq]
  cases s.q with
  | nil => exact ⟨l, rfl⟩
  | cons h rest =>
    dsimp only
    cases h.st with
    | sent => exact ⟨l, rfl⟩
    | idle => exact sendThen_linkBlind _ (fun _ l => ⟨l, rfl⟩) s l

theorem hbStep_linkBlind : LinkBlind hbStep :=
  fun s l => ite_sameButLink (c := s.now > s.hbDeadline)
    (ite_sameButLink (c := s.probeCount > s.cfg.probeLimit) (fatalReset_linkBlind _ s l)
      (sendThen_linkBlind _ (fun _ l => ⟨l, rfl⟩) s l)) ⟨l, rfl⟩

theorem rtStep_linkBlind : LinkBlind rtStep := by
  intro s l
  have hq : (relink l s).q = s.q := rfl
  simp only [rtStep, hq]
  cases s.q with
  | nil => exact endOfPoll_linkBlind s l
  | cons h rest =>
    exact ite_sameButLink (c := retransmitDue s h = true) (sendThen_linkBlind _ (fun _ l => ⟨l, rfl⟩) s l)
      (endOfPoll_linkBlind s l)

theorem engineStep_sameButLink (s : State) (l : LinkState) :
    NextSameButLink (engineStep s) (engineStep (relink l s)) := by
  have hphase : (relink l s).phase = s.phase := rfl
  simp only [engineStep, hphase]
  cases s.phase with
  | boundary => exact .next (boundaryStep_linkBlind s l)
  | rx => exact framerStep_sameButLink s l
  | tx => exact .next (txStep_linkBlind s l)
  | hb => exact .next (hbStep_linkBlind s l)
  | rt => exact .next (rtStep_linkBlind s l)

theorem act_sameButLink (a : Action) (s : State) (l : LinkState) :
    NextSameButLink (act a s) (act a (relink l s)) := by
  cases a with
  | host bytes =>
    simp only [act, hostStep]
    cases decodeCommand bytes with
    | ok i => exact exec_sameButLink i s l
    | reject e => exact .next ⟨l, rfl⟩
  | engine r w =>
    exact ite_nextSameButLink (c := engineEnabled s = true)
      (engineStep_sameButLink { s with rxDraw := r, txDraw := w } l) (.next ⟨l, rfl⟩)
  | clock d => exact .next ⟨l, rfl⟩

theorem draw_relink (s : State) (l : LinkState) :
    nextAction (relink l s) = nextAction s ∧ afterDraw (relink l s) = relink l (afterDraw s) := by
  have hsched : (relink l s).sched = s.sched := rfl
  simp only [nextAction, afterDraw, hsched]
  cases s.sched <;> exact ⟨rfl, rfl⟩

/-- Settles O27: the same move is drawn, it ends in states that differ at most in `link_state`, and the time check does not read it. -/
theorem linkStateGatesNothing : Obligations.LinkStateGatesNothing := by
  intro s t l h
  obtain ⟨hact, hfit⟩ := withinTime_next h
  obtain ⟨hnext, hdraw⟩ := draw_relink s l
  have hsame := act_sameButLink (nextAction s) (afterDraw s) l
  rw [hact, ← hnext, ← hdraw] at hsame
  obtain ⟨l', hact'⟩ := hsame.eq_next
  have hstep : step (relink l s) = .next (relink l' t) := by
    rw [step, hact']
    exact if_pos hfit
  exact ⟨_, hstep, rfl⟩

end Sys2Proof.Machine
end

section
/-! SUPPORT. The fields of the status word, and the settled statements on the reset table and the readable registers (R26, R29, R38, R39, R224). -/

namespace Sys2Proof.Machine

/-! ## The fields of STATUS (R39) -/

section StatusFields

variable (s : State)

theorem statusWord_linkState : (statusWord s).extractLsb' 0 2 = linkStateCode s.linkState := by
  ext i hi
  interval_cases i <;> simp [statusWord]

theorem statusWord_lastPoll : (statusWord s).extractLsb' 4 2 = lastPollCode s.lastPoll := by
  ext i hi
  interval_cases i <;> simp [statusWord]

theorem statusWord_fatalCause : (statusWord s).extractLsb' 6 3 = fatalCauseCode s.fatalCause := by
  ext i hi
  interval_cases i <;> simp [statusWord]

theorem statusWord_reserved : (statusWord s).extractLsb' 13 3 = 0#3 := by
  ext i hi
  interval_cases i <;> simp [statusWord]

theorem statusWord_running : (statusWord s).getLsbD 2 = s.running := by simp [statusWord]

theorem statusWord_stopReq : (statusWord s).getLsbD 3 = s.stopReq := by simp [statusWord]

theorem statusWord_fault : (statusWord s).getLsbD 9 = s.fault := by simp [statusWord]

theorem statusWord_refused : (statusWord s).getLsbD 10 = s.refused := by simp [statusWord]

theorem statusWord_rxCbEn : (statusWord s).getLsbD 11 = s.rxCbEn := by simp [statusWord]

theorem statusWord_evtCbEn : (statusWord s).getLsbD 12 = s.evtCbEn := by simp [statusWord]

end StatusFields

/-- Settles O60: each field of STATUS is read back at its position; the other registers are the state's own values. -/
theorem statusWordHasItsFields : Obligations.StatusWordHasItsFields := by
  intro s
  refine ⟨?link, statusWord_running s, statusWord_stopReq s, ?poll, ?cause, statusWord_fault s, statusWord_refused s,
    statusWord_rxCbEn s, statusWord_evtCbEn s, statusWord_reserved s, rfl, rfl, rfl, rfl, rfl⟩
  case link => exact (statusWord_linkState s).trans (by cases s.linkState <;> rfl)
  case poll => exact (statusWord_lastPoll s).trans (by cases s.lastPoll <;> rfl)
  case cause => exact (statusWord_fatalCause s).trans (by cases s.fatalCause <;> rfl)

/-! ## The reset table (R38) -/

theorem statusWord_resetWith (c : Config) (now : Nat) (sched : List Action) :
    statusWord (State.resetWith c now sched) = 0x0000#16 := by
  simp [statusWord, State.resetWith, linkStateCode, lastPollCode, fatalCauseCode]

/-- Settles O1: `resetWith` writes the table, whose flags and codes make up a STATUS of 0. -/
theorem powerOnResetLeavesTheTableValues : Obligations.PowerOnResetLeavesTheTableValues :=
  fun c now sched =>
    ⟨rfl, rfl, rfl, rfl, rfl, rfl, rfl, rfl, rfl, rfl, rfl, rfl, rfl, rfl, rfl, rfl, rfl, rfl, rfl, rfl, rfl, rfl, rfl, rfl,
      rfl, statusWord_resetWith c now sched⟩

end Sys2Proof.Machine
end

section
/-! SUPPORT. An I-frame that is accepted, a message's fragments received one after another, and the settled statement of 20_memory.md (R72, R196, R201, R205). -/

namespace Sys2Proof.Machine

/-! ## Accepted I-frames and runs of instructions -/

/-- The state after an I-frame of the next number is accepted and acknowledged (R140, R150, R201, R203). -/
def accepted (more : Bool) (payload : List Byte) (s : State) : State :=
  { s with
    hbDeadline := s.now + s.cfg.timeHeart
    probeCount := 0
    recvSeq := s.recvSeq + 1#16
    rb := if more = true then s.rb ++ payload else []
    msgLog := if more = false ∧ s.rxCbEn = true then s.msgLog ++ [s.rb ++ payload] else s.msgLog
    txLog := s.txLog ++ [(s.cfg.sync :: aFrameBytes s.cfg, .ok)]
    phase := .tx }

/-- With room in the buffer and a whole write of the acknowledgment, an I-frame of the next number is accepted. -/
theorem exec_iFrame_accepted {s : State} {seq : Half} (more : Bool) {payload : List Byte} (hseq : seq = s.recvSeq + 1#16)
    (hroom : s.rb.length + payload.length ≤ s.cfg.reasmCapacity) (hwrite : s.txDraw = .count 2) :
    exec (.iFrame seq more payload) s = .next (accepted more payload s) := by
  subst hseq
  have hfit : fragmentOverflows payload s = false := by simpa [fragmentOverflows] using hroom
  have hsend : acceptI (s.recvSeq + 1#16) more payload s = accepted more payload s := by
    rw [acceptI, onFragment_eq]
    exact sendThen_ok hwrite
  simp [exec, execIFrame, hfit, hsend]

/-- A run goes on from where the instructions before it ended. -/
theorem execAll_append_of_next {before : List Instr} (after : List Instr) {s t : State} (h : execAll before s = .next t) :
    execAll (before ++ after) s = execAll after t := by
  induction before generalizing s with
  | nil =>
    cases h
    rfl
  | cons i rest ih =>
    obtain ⟨u, hu⟩ := exec_next i s
    simp only [List.cons_append, execAll, hu] at h ⊢
    exact ih h

theorem execAll_singleton {i : Instr} {s t : State} (h : exec i s = .next t) : execAll [i] s = .next t := by
  simp [execAll, h]

/-! ## The fragments of a message (R196, R205) -/

section Fragments

variable (c : Config) (m : List Byte)

/-- The first `n` fragments joined, and the next one, are the first `n + 1` joined. -/
theorem take_append_chunkAt (n : Nat) :
    m.take (n * c.maxPayload) ++ chunkAt c m n = m.take ((n + 1) * c.maxPayload) := by
  rw [chunkAt, ← List.take_add, Nat.succ_mul]

/-- A message that is not empty has a last fragment, and the fragments up to it reach its end. -/
theorem fragmentCount_eq_succ {c : Config} {m : List Byte} (hM : 1 ≤ c.maxPayload) (hm : m ≠ []) :
    ∃ k, fragmentCount c m = k + 1 ∧ m.length ≤ (k + 1) * c.maxPayload := by
  have hpos : 0 < m.length := List.length_pos_iff.2 hm
  have hcover : m.length ≤ fragmentCount c m * c.maxPayload := by
    have := Nat.lt_div_mul_add (a := m.length + c.maxPayload - 1) hM
    rw [fragmentCount]
    omega
  have hcount : 0 < fragmentCount c m := Nat.div_pos (by omega) hM
  exact ⟨fragmentCount c m - 1, by omega, by rwa [Nat.sub_add_cancel hcount]⟩

/-- The first `n` of a message's frames when more follow them all: every one has the more flag. -/
def openFrames (seq : Half) (n : Nat) : List Instr :=
  (List.range n).map fun i => .iFrame (seq + BitVec.ofNat 16 i) true (chunkAt c m i)

theorem openFrames_succ (seq : Half) (n : Nat) :
    openFrames c m seq (n + 1) = openFrames c m seq n ++ [.iFrame (seq + BitVec.ofNat 16 n) true (chunkAt c m n)] := by
  simp [openFrames, List.range_succ]

/-- A message's frames are those with the more flag and then the last, without it. -/
theorem fragmentFrames_eq_openFrames_append {c : Config} {m : List Byte} {k : Nat} (hk : fragmentCount c m = k + 1)
    (seq : Half) :
    fragmentFrames c seq m = openFrames c m seq k ++ [.iFrame (seq + BitVec.ofNat 16 k) false (chunkAt c m k)] := by
  simp +contextual [fragmentFrames, openFrames, hk, List.range_succ]

/-! ## Their reception -/

/-- `t` is the block `r` once it has taken the first `n` fragments of `m`, none of them the last: they are joined in the buffer, and nothing is delivered yet. -/
structure Collected (r : State) (n : Nat) (t : State) : Prop where
  joined : t.rb = m.take (n * c.maxPayload)
  counted : t.recvSeq = r.recvSeq + BitVec.ofNat 16 n
  undelivered : t.msgLog = r.msgLog
  sameCfg : t.cfg = r.cfg
  sameRxCb : t.rxCbEn = r.rxCbEn
  sameDraw : t.txDraw = r.txDraw

variable {c m} {r t : State} {n : Nat}

/-- The next fragment is accepted: it has the next number, and the buffer has room for any part of the message. -/
theorem Collected.exec_next_fragment (h : Collected c m r n t) (hroom : m.length ≤ r.cfg.reasmCapacity)
    (hwrite : r.txDraw = .count 2) (more : Bool) :
    exec (.iFrame (r.recvSeq + 1#16 + BitVec.ofNat 16 n) more (chunkAt c m n)) t
      = .next (accepted more (chunkAt c m n) t) := by
  have hseq : r.recvSeq + 1#16 + BitVec.ofNat 16 n = t.recvSeq + 1#16 := by rw [h.counted]; ac_rfl
  have hfit : t.rb.length + (chunkAt c m n).length ≤ t.cfg.reasmCapacity := by
    rw [← List.length_append, h.joined, take_append_chunkAt, h.sameCfg]
    exact (List.length_take_le' ..).trans hroom
  exact exec_iFrame_accepted more hseq hfit (h.sameDraw.trans hwrite)

theorem Collected.recvSeq_accepted (h : Collected c m r n t) (more : Bool) (p : List Byte) :
    (accepted more p t).recvSeq = r.recvSeq + BitVec.ofNat 16 (n + 1) := by
  simp [accepted, h.counted, BitVec.ofNat_add, BitVec.add_assoc]

/-- A fragment with the more flag leaves one more fragment collected. -/
theorem Collected.accepted_more (h : Collected c m r n t) : Collected c m r (n + 1) (accepted true (chunkAt c m n) t) where
  joined := by simp [accepted, h.joined, take_append_chunkAt]
  counted := h.recvSeq_accepted ..
  undelivered := by simp [accepted, h.undelivered]
  sameCfg := h.sameCfg
  sameRxCb := h.sameRxCb
  sameDraw := h.sameDraw

/-- The fragments before the last are all collected, by induction on how many are received. -/
theorem execAll_openFrames (hrb : r.rb = []) (hroom : m.length ≤ r.cfg.reasmCapacity) (hwrite : r.txDraw = .count 2)
    (n : Nat) : ∃ t, execAll (openFrames c m (r.recvSeq + 1#16) n) r = .next t ∧ Collected c m r n t := by
  induction n with
  | zero => exact ⟨r, rfl, by simp [hrb], by simp, rfl, rfl, rfl, rfl⟩
  | succ n ih =>
    obtain ⟨t, hrun, ht⟩ := ih
    refine ⟨_, ?_, ht.accepted_more⟩
    rw [openFrames_succ, execAll_append_of_next _ hrun]
    exact execAll_singleton (ht.exec_next_fragment hroom hwrite true)

/-- The last fragment delivers the message and empties the buffer. -/
theorem Collected.accepted_last (h : Collected c m r n t) (hlast : m.length ≤ (n + 1) * c.maxPayload)
    (hcb : r.rxCbEn = true) :
    (accepted false (chunkAt c m n) t).msgLog = r.msgLog ++ [m] ∧ (accepted false (chunkAt c m n) t).rb = [] := by
  have hmessage : t.rb ++ chunkAt c m n = m := by rw [h.joined, take_append_chunkAt, List.take_of_length_le hlast]
  simp [accepted, hmessage, h.sameRxCb, hcb, h.undelivered]

end Fragments

/-- Settles O48: the fragments before the last collect in the buffer (`execAll_openFrames`), and the last one delivers them joined. -/
theorem fragmentsReassembleToTheMessage : Obligations.FragmentsReassembleToTheMessage := by
  intro c m r hM hm hrb hroom hcb hwrite
  obtain ⟨k, hk, hlast⟩ := fragmentCount_eq_succ hM hm
  obtain ⟨t, hrun, ht⟩ := execAll_openFrames (c := c) hrb hroom hwrite k
  obtain ⟨hdelivered, hempty⟩ := ht.accepted_last hlast hcb
  refine ⟨accepted false (chunkAt c m k) t, ?run, hdelivered, hempty, ?counted⟩
  case run =>
    rw [fragmentFrames_eq_openFrames_append hk, execAll_append_of_next _ hrun]
    exact execAll_singleton (ht.exec_next_fragment hroom hwrite false)
  case counted => exact hk ▸ ht.recvSeq_accepted ..

end Sys2Proof.Machine
end

section
/-! SUPPORT. What the decoder makes of each encoding and of a command's bytes, and the settled statements on the decoder (R81 to R93, R190, R227(a)). -/

namespace Sys2Proof.Machine

/-! ## The encodings decoded (R81 to R91) -/

section Frames

/-- R87's table: each control code with its U-frame's instruction. -/
def controlCodes (c : Config) : List (Byte × Instr) :=
  [(c.codeStart, .uStart), (c.codeStartCon, .uStartCon), (c.codeReset, .uReset), (c.codeResetCon, .uResetCon),
    (c.codeStop, .uStop), (c.codeStopCon, .uStopCon), (c.codeTest, .uTest), (c.codeTestCon, .uTestCon)]

variable {c : Config}

/-- The decoder tests the codes one after another; as they are distinct, a code passes its own test only. -/
theorem instrOfCode_of_mem_controlCodes (hc : c.CodesDistinct) {code : Byte} {i : Instr}
    (h : (code, i) ∈ controlCodes c) : instrOfCode c code = .ok i := by
  simp only [Config.CodesDistinct, List.nodup_cons, List.mem_cons, not_or] at hc
  simp only [controlCodes, List.mem_cons, Prod.mk.injEq, List.not_mem_nil, or_false] at h
  unfold instrOfCode
  grind

variable (hc : c.WellFormed = true)

include hc

theorem decodeFrame_iFrameBytes (seq : Half) (more : Bool) {p : List Byte} (hp : p.length ≤ c.rxMaxPayload) :
    decodeFrame c (iFrameBytes c seq more p) = .ok (.iFrame seq more p) := by
  obtain ⟨-, -, -, ⟨hrx, -⟩, -⟩ := c.wellFormed_iff.1 hc
  have htype : decodeFrame c (iFrameBytes c seq more p) = decodeI c (iFrameBytes c seq more p) := if_pos rfl
  rw [htype, decodeI_iFrameBytes c seq more p hp (hp.trans hrx)]

theorem decodeFrame_aFrameBytes : decodeFrame c (aFrameBytes c) = .ok .aFrame := by
  simp [decodeFrame, aFrameBytes, decodeA, Config.aMark_ne_iMark hc, Config.aMark_ne_uMark hc]

/-- A U-frame's own bytes pass every check but that of the code. -/
theorem decodeFrame_uFrame (code : Byte) : decodeFrame c (uFrame c code) = instrOfCode c code := by
  simp [decodeFrame, uFrame, decodeU, Config.uMark_ne_iMark hc]

theorem decodeFrame_uFrame_of_mem_controlCodes {code : Byte} {i : Instr} (h : (code, i) ∈ controlCodes c) :
    decodeFrame c (uFrame c code) = .ok i := by
  obtain ⟨-, hcodes, -⟩ := c.wellFormed_iff.1 hc
  rw [decodeFrame_uFrame hc, instrOfCode_of_mem_controlCodes hcodes h]

end Frames

/-- Settles O5: by the kind of the instruction's encoding, an I-frame, the A-frame, a U-frame of R87's table or a command. -/
theorem decodingAnEncodedInstructionGivesItBack : Obligations.DecodingAnEncodedInstructionGivesItBack := by
  intro c i hc hi
  cases i
  case iFrame seq more p => exact decodeFrame_iFrameBytes hc seq more (of_decide_eq_true hi)
  case aFrame => exact decodeFrame_aFrameBytes hc
  case uStart | uStartCon | uReset | uResetCon | uStop | uStopCon | uTest | uTestCon =>
    exact decodeFrame_uFrame_of_mem_controlCodes hc (by simp [controlCodes])
  case cmdStart | cmdStop | cmdBegin | cmdReset | cmdEnd | cmdSend | cmdRegRx | cmdRegEvt => rfl

/-- Settles O6: closed words, decoded by evaluation, their checksums included. -/
theorem writtenOutWordsDecodeUnderRef : Obligations.WrittenOutWordsDecodeUnderRef := by
  unfold Obligations.WrittenOutWordsDecodeUnderRef
  decide +kernel

/-! ## The commands refused (R92, R227(a)) -/

/-- A code of R92's table is never answered as reserved, and outside the table the operand is not read. -/
theorem decodeCommand_reserved_iff (code : Byte) (operand : List Byte) :
    decodeCommand (code :: operand) = .reject .reservedCommand ↔ code = 0x00#8 ∨ 9 ≤ code.toNat := by
  simp only [decodeCommand, ← BitVec.toNat_inj]
  split
  case h_9 => grind
  all_goals simp [*]

/-- The operand is at fault exactly when R92's row of the code has another one (log entry 8). -/
theorem decodeCommand_badOperand_iff (code : Byte) (operand : List Byte) :
    decodeCommand (code :: operand) = .reject .badOperand ↔
      (code ∈ [0x01#8, 0x02#8, 0x03#8, 0x04#8, 0x05#8] ∧ operand ≠ []) ∨
        (code ∈ [0x07#8, 0x08#8] ∧ operand.length ≠ 1) := by
  simp only [decodeCommand, List.mem_cons, ← BitVec.toNat_inj, ne_eq, List.length_eq_one_iff]
  split
  case h_9 hrx hevt =>
    simp only [← imp_forall_iff] at hrx hevt
    grind
  all_goals simp [*]

/-- Settles O11: the two rejections by code and operand above, and a HOST move of rejected bytes only sets `refused`. -/
theorem reservedCommandIsRefusedWithNoOtherEffect : Obligations.ReservedCommandIsRefusedWithNoOtherEffect := by
  refine ⟨decodeCommand_reserved_iff, decodeCommand_badOperand_iff, rfl, fun s bytes rest e hsched hdecode => ?_⟩
  have hreject : decodeCommand bytes = .reject e := hdecode
  have hact : act (.host bytes) { s with sched := rest } = .next { s with sched := rest, refused := true } := by
    simp only [act, hostStep, hreject, refuseCommand]
  have hstep : step s = withinTime (.next { s with sched := rest, refused := true }) := by
    rw [step_of_sched hsched, hact]
  refine ⟨hstep, fun hw => hstep.trans (withinTime_of_unbounded ?_)⟩
  rintro t ⟨⟩
  exact hw

end Sys2Proof.Machine
end

section
/-! SUPPORT. The forms of the queued frames through every end of a move, the units a step writes, and the settled statements on both (R80, R83, R111, R173, R174, R197, R198). -/

namespace Sys2Proof.Machine

/-! ## The form of one entry -/

variable {c : Config} {seq : Half} {e : Entry}

/-- The number `send_seq` stands in Sent I-frames only. -/
theorem Entry.FrameOk.of_idle (h : e.FrameOk c seq) (hidle : e.st = .idle) (seq' : Half) : e.FrameOk c seq' := by
  cases hk : e.kind <;> simpa only [Entry.FrameOk, hk, hidle] using h

theorem Entry.FrameOk.restamp (h : e.FrameOk c seq) (time : Nat) : ({ e with sentTime := time } : Entry).FrameOk c seq := h

/-- An Idle entry, filled in at its transmission, has the form of a Sent one (R173, R174). -/
theorem Entry.FrameOk.transmit (h : e.FrameOk c seq) (hidle : e.st = .idle) (time : Nat) :
    ({ e with bytes := bytesToSend c seq e, st := .sent, sentTime := time } : Entry).FrameOk c seq := by
  cases hk : e.kind with
  | ku => simpa only [Entry.FrameOk, bytesToSend, hk] using h
  | ki =>
    simp only [Entry.FrameOk, hk, hidle] at h
    obtain ⟨chunk, more, hfit, hbytes⟩ := h
    simp only [Entry.FrameOk, bytesToSend, hk, hbytes, fillSeqCrc_prepareIFrame]
    exact ⟨chunk, more, hfit, rfl⟩

/-- The bytes of a Sent entry are a frame's encoding. -/
theorem Entry.FrameOk.encodes (h : e.FrameOk c seq) (hsent : e.st = .sent) : ∃ i, encode c i = .frame e.bytes := by
  cases hk : e.kind with
  | ku =>
    simp only [Entry.FrameOk, hk] at h
    obtain h | h | h := h
    · exact ⟨.uStart, congrArg _ h.symm⟩
    · exact ⟨.uReset, congrArg _ h.symm⟩
    · exact ⟨.uStop, congrArg _ h.symm⟩
  | ki =>
    simp only [Entry.FrameOk, hk, hsent] at h
    obtain ⟨chunk, more, -, h⟩ := h
    exact ⟨.iFrame seq more chunk, congrArg _ h.symm⟩

theorem fragmentEntries_frameOk (c : Config) (seq : Half) (m : List Byte) :
    ∀ e ∈ fragmentEntries c m, e.FrameOk c seq := by
  intro e he
  obtain ⟨i, -, rfl⟩ := List.mem_map.1 he
  exact ⟨chunkAt c m i, _, List.length_take_le .., rfl⟩

/-! ## The queue through the shared operations -/

variable {s t : State}

theorem queueFramesOk_of_nil (h : s.q = []) : s.QueueFramesOk := by simp [State.QueueFramesOk, h]

theorem State.QueueFramesOk.head (hs : s.QueueFramesOk) {rest : List Entry} (hq : s.q = e :: rest) :
    e.FrameOk s.cfg s.sendSeq :=
  hs e (by simp [hq])

/-- Behind the head every entry is Idle, so after a pop the forms hold under any `send_seq` (R32, R179(a)). -/
theorem State.QueueFramesOk.tail (h : s.QueueFramesOk) (hidle : ∀ e ∈ s.q.tail, e.st = .idle) (seq : Half) :
    ∀ e ∈ s.q.tail, e.FrameOk s.cfg seq :=
  fun e he => (h e (List.mem_of_mem_tail he)).of_idle (hidle e he) seq

theorem State.QueueFramesOk.pushAll (h : s.QueueFramesOk) (i : Instr) {es : List Entry}
    (hes : ∀ e ∈ es, e.FrameOk s.cfg s.sendSeq) : (pushAll i es s).QueueFramesOk := by
  unfold Machine.pushAll
  split
  · exact h
  · exact fun e he => (List.mem_append.1 he).elim (h e) (hes e)

theorem State.QueueFramesOk.setHead (hs : s.QueueFramesOk) (he : e.FrameOk s.cfg s.sendSeq) :
    (setHead e s).QueueFramesOk := by
  intro e' he'
  obtain rfl | he' := List.mem_cons.1 he'
  · exact he
  · exact hs e' (List.mem_of_mem_tail he')

/-! ## The queue through a dispatch and a command -/

theorem exec_frame_queueFramesOk {i : Instr} (hi : i.isCommand = false) (h : exec i s = .next t) (hs : s.QueueFramesOk)
    (hidle : ∀ e ∈ s.q.tail, e.st = .idle) : t.QueueFramesOk := by
  refine exec_frame_induct State.QueueFramesOk State.QueueFramesOk hi h hs ?log ?event ?link ?clear ?pop ?restart ?ack
    ?accept hs ?fatal ?finish
  case log => exact fun _ _ hu _ _ => hu
  case event => exact fun _ _ hu => hu
  case link => exact fun _ _ hu => hu
  case clear => exact fun _ _ => hs
  case pop => exact fun _ _ => hs.tail hidle s.sendSeq
  case restart => exact fun _ => hs.tail hidle 1#16
  case ack => exact fun _ => hs.tail hidle (s.sendSeq + 1#16)
  case accept =>
    intro more p _
    rw [onFragment_eq]
    exact hs
  case fatal => exact fun _ _ _ => queueFramesOk_of_nil rfl
  case finish => exact fun _ hu => hu

theorem exec_command_queueFramesOk {i : Instr} (hi : i.isCommand = true) (h : exec i s = .next t)
    (hs : s.QueueFramesOk) : t.QueueFramesOk := by
  cases i <;> simp only [Instr.isCommand, Bool.false_eq_true] at hi <;> injection h with h <;> subst h
  case cmdStart => split <;> exact hs
  case cmdStop =>
    split
    · exact hs
    · exact queueFramesOk_of_nil rfl
  case cmdBegin | cmdReset | cmdEnd => exact hs.pushAll _ (by simp [Entry.FrameOk, prepareUFrame])
  case cmdSend m => exact hs.pushAll _ (fragmentEntries_frameOk s.cfg s.sendSeq m)
  case cmdRegRx | cmdRegEvt => exact hs

/-! ## The queue through a step -/

theorem FramerEnd.queueFramesOk (h : FramerEnd s t) (hs : s.QueueFramesOk) (hidle : ∀ e ∈ s.q.tail, e.st = .idle) :
    t.QueueFramesOk := by
  cases h with
  | move hm => cases hm <;> exact hs
  | discarded | dropped | quiet | faulted => exact hs
  | readFailed => exact queueFramesOk_of_nil rfl
  | ran hi hx _ => exact exec_frame_queueFramesOk hi.isCommand hx hs hidle

theorem boundaryStep_queueFramesOk (hs : s.QueueFramesOk) : (boundaryStep s).QueueFramesOk :=
  boundaryStep_induct State.QueueFramesOk (fun _ => queueFramesOk_of_nil rfl) (fun _ => hs)

theorem txStep_queueFramesOk (hs : s.QueueFramesOk) : (txStep s).QueueFramesOk :=
  txStep_induct State.QueueFramesOk hs (fun _ _ hq hidle => hs.setHead ((hs.head hq).transmit hidle s.now))
    (fun _ _ _ _ => queueFramesOk_of_nil rfl)

theorem hbStep_queueFramesOk (hs : s.QueueFramesOk) : (hbStep s).QueueFramesOk :=
  hbStep_induct State.QueueFramesOk hs (fun _ _ => hs) (fun _ _ => queueFramesOk_of_nil rfl) (queueFramesOk_of_nil rfl)

theorem rtStep_queueFramesOk (hs : s.QueueFramesOk) : (rtStep s).QueueFramesOk :=
  rtStep_induct State.QueueFramesOk hs (fun _ _ hq _ => hs.setHead ((hs.head hq).restamp s.now))
    (fun _ _ _ _ => queueFramesOk_of_nil rfl)

theorem MoveEnd.queueFramesOk (h : MoveEnd s t) (hs : s.QueueFramesOk) (hidle : ∀ e ∈ s.q.tail, e.st = .idle) :
    t.QueueFramesOk := by
  cases h with
  | command hi hx => exact exec_command_queueFramesOk hi hx hs
  | refused | disabled | clock => exact hs
  | boundary r w => exact boundaryStep_queueFramesOk (s := { s with rxDraw := r, txDraw := w }) hs
  | rx r w _ _ _ he => exact he.queueFramesOk hs hidle
  | tx r w => exact txStep_queueFramesOk (s := { s with rxDraw := r, txDraw := w }) hs
  | hb r w => exact hbStep_queueFramesOk (s := { s with rxDraw := r, txDraw := w }) hs
  | rt r w => exact rtStep_queueFramesOk (s := { s with rxDraw := r, txDraw := w }) hs

/-- Settles O19: an entry's form names `send_seq` only when it is a Sent I-frame, and `send_seq` changes only when the one Sent entry leaves the queue. -/
theorem everyStepKeepsTheQueuedFramesWellFormed : Obligations.EveryStepKeepsTheQueuedFramesWellFormed := by
  intro s s' hinv hs h
  obtain ⟨sched, turn, hmove⟩ := step_drawn h
  exact hmove.queueFramesOk hs hinv.onlyHeadSent

/-! ## The transmitted units (R80, R111) -/

/-- `t` has the parameters of `s`, and what `t` transmitted beyond `s` is units of one frame each. -/
def SendsUnits (s t : State) : Prop := t.cfg = s.cfg ∧ ∀ u ∈ t.txLog, u ∈ s.txLog ∨ UnitOk s.cfg u.1

theorem SendsUnits.of_txLog_eq (hcfg : t.cfg = s.cfg) (h : t.txLog = s.txLog) : SendsUnits s t :=
  ⟨hcfg, fun _ hu => .inl (h ▸ hu)⟩

theorem SendsUnits.refl (s : State) : SendsUnits s s := .of_txLog_eq rfl rfl

theorem SendsUnits.logTx (h : SendsUnits s t) {F : List Byte} (hF : ∃ i, encode s.cfg i = .frame F) :
    SendsUnits s (logTx F t) := by
  obtain ⟨hcfg, hold⟩ := h
  refine ⟨hcfg, fun u hu => ?_⟩
  obtain hu | hu := List.mem_append.1 hu
  · exact hold u hu
  · obtain ⟨i, hi⟩ := hF
    rw [List.mem_singleton.1 hu, hcfg]
    exact .inr ⟨i, F, hi, rfl⟩

theorem exec_frame_sendsUnits {i : Instr} (hi : i.isCommand = false) (h : exec i s = .next t) : SendsUnits s t := by
  refine exec_frame_induct (SendsUnits s) (SendsUnits s) hi h (.refl s) ?log ?event ?link ?clear ?pop ?restart ?ack
    ?accept (.refl s) ?fatal ?finish
  case log => exact fun _ _ hu hF _ => hu.logTx hF
  case event => exact fun _ _ hu => hu
  case link => exact fun _ _ hu => hu
  case clear => exact fun _ hF => (SendsUnits.refl s).logTx hF
  case pop => exact fun _ _ => .refl s
  case restart => exact fun _ => .refl s
  case ack => exact fun _ => .refl s
  case accept => exact fun more p _ => .of_txLog_eq (onFragment_cfg ..) (onFragment_txLog ..)
  case fatal => exact fun _ _ hu => hu
  case finish => exact fun _ hu => hu

theorem FramerEnd.sendsUnits (h : FramerEnd s t) : SendsUnits s t := by
  cases h with
  | move hm => cases hm <;> exact .refl s
  | discarded | dropped | quiet | readFailed | faulted => exact .refl s
  | ran hi hx _ => exact (exec_frame_sendsUnits hi.isCommand hx :)

theorem txStep_sendsUnits (hs : s.QueueFramesOk) : SendsUnits s (txStep s) := by
  have sent {e : Entry} {rest : List Entry} (hq : s.q = e :: rest) (hidle : e.st = .idle) :
      SendsUnits s (logTx (bytesToSend s.cfg s.sendSeq e) s) :=
    (SendsUnits.refl s).logTx (((hs.head hq).transmit hidle s.now).encodes rfl)
  exact txStep_induct (SendsUnits s) (.refl s) (fun _ _ hq hidle => sent hq hidle) (fun _ _ hq hidle => sent hq hidle)

theorem hbStep_sendsUnits (s : State) : SendsUnits s (hbStep s) := by
  have probe : SendsUnits s (logTx (uFrame s.cfg s.cfg.codeTest) s) := (SendsUnits.refl s).logTx ⟨.uTest, rfl⟩
  exact hbStep_induct (SendsUnits s) (.refl s) (fun _ _ => probe) (fun _ _ => .refl s) probe

theorem rtStep_sendsUnits (hs : s.QueueFramesOk) : SendsUnits s (rtStep s) := by
  have resent {e : Entry} {rest : List Entry} (hq : s.q = e :: rest) (hdue : retransmitDue s e = true) :
      SendsUnits s (logTx e.bytes s) :=
    (SendsUnits.refl s).logTx ((hs.head hq).encodes ((retransmitDue_iff s e).1 hdue).1)
  exact rtStep_induct (SendsUnits s) (.refl s) (fun _ _ hq hdue => resent hq hdue) (fun _ _ hq hdue => resent hq hdue)

theorem MoveEnd.sendsUnits (h : MoveEnd s t) (hs : s.QueueFramesOk) : SendsUnits s t := by
  cases h with
  | command hi hx =>
    obtain ⟨-, -, htx, -⟩ := exec_command_sameEngineSide hi hx
    exact .of_txLog_eq (exec_command_sameCfgNow hi hx).1 htx
  | refused | disabled | clock => exact .refl s
  | boundary r w => exact boundaryStep_induct (SendsUnits s) (fun _ => .refl s) (fun _ => .refl s)
  | rx r w _ _ _ he => exact he.sendsUnits
  | tx r w => exact txStep_sendsUnits (s := { s with rxDraw := r, txDraw := w }) hs
  | hb r w => exact hbStep_sendsUnits { s with rxDraw := r, txDraw := w }
  | rt r w => exact rtStep_sendsUnits (s := { s with rxDraw := r, txDraw := w }) hs

/-- Settles O20: every send is a reply, a probe or the queue's head, and the head's bytes are a frame's (O19's forms). -/
theorem everyTransmittedUnitIsSyncAndOneFrame : Obligations.EveryTransmittedUnitIsSyncAndOneFrame := by
  intro s s' _ hs h
  obtain ⟨sched, turn, hmove⟩ := step_drawn h
  obtain ⟨hcfg, hunits⟩ := hmove.sendsUnits hs
  rw [hcfg]
  exact hunits

end Sys2Proof.Machine
end

section
/-! SUPPORT. A frame's wire unit read byte by byte, and the settled statement on it (R80, R90, R112 to R123). -/

namespace Sys2Proof.Machine

/-! ## The bytes of a frame still to be read -/

/-- The moves that read these bytes, each with the write answer `w`. -/
def readMoves (w : WriteResult) (bytes : List Byte) : List Action := bytes.map fun b => .engine (.byte b) w

/-- The state in which the frame `F` is dispatched after its last byte, when the moves `rest` are left (R119). -/
def atDispatch (F : List Byte) (w : WriteResult) (rest : List Action) (s : State) : State :=
  { discardPartial s with sched := rest, rxDraw := .byte (F.getLastD 0#8), txDraw := w }

/-- The state once the move that reads `b` is drawn, with the moves `sched` left. -/
def withRead (b : Byte) (w : WriteResult) (sched : List Action) (s : State) : State :=
  { s with sched := sched, rxDraw := .byte b, txDraw := w }

/-- Phase 1 has the bytes `todo` of a unit still to read, which complete the frame `F`; `F` is the instruction `i`, whose dispatch then leads to `t` without a fault. -/
structure Receiving (F : List Byte) (i : Instr) (w : WriteResult) (rest : List Action) (t : State) (todo : List Byte)
    (s : State) : Prop where
  running : s.running = true
  noFault : s.fault = false
  phase : s.phase = .rx
  unbounded : s.cfg.timeW = none
  sched : s.sched = readMoves w todo ++ rest
  decodes : decodeFrame s.cfg F = .ok i
  runs : exec i (atDispatch F w rest s) = .next t
  faultless : t.fault = false

variable {F todo : List Byte} {i : Instr} {w : WriteResult} {rest : List Action} {s t u : State} {b : Byte}

/-- The step of a Framer that reads a listed byte (R112). -/
theorem Receiving.step_eq (h : Receiving F i w rest t (b :: todo) s) :
    step s = framerByte b (withRead b w (readMoves w todo ++ rest) s) := by
  have hact : act (.engine (.byte b) w) { s with sched := readMoves w todo ++ rest }
      = framerByte b (withRead b w (readMoves w todo ++ rest) s) := by
    simp [act, engineEnabled, engineStep, framerStep, withRead, h.running, h.noFault, h.phase]
  have hsched : s.sched = .engine (.byte b) w :: (readMoves w todo ++ rest) := h.sched
  rw [step_of_sched hsched, hact]
  refine withinTime_of_unbounded fun t' ht' => ?_
  have hcfg := (framerStep_end (v := withRead b w (readMoves w todo ++ rest) s) ht').sameCfgNow.1
  exact hcfg ▸ h.unbounded

/-- A run goes on from the next state. -/
theorem run_succ_of_step (h : step s = .next u) (n : Nat) : Sys2Proof.core.run (n + 1) s = Sys2Proof.core.run n u := by
  have hstep : Sys2Proof.core.step s = .next u := h
  simp only [Host.Core.run, hstep]

/-- A byte within the unit leaves one byte less to read: the synchronizer is all that it changes. -/
theorem Receiving.move (h : Receiving F i w rest t (b :: todo) s)
    (hm : FramerMove (withRead b w (readMoves w todo ++ rest) s) u) : Receiving F i w rest t todo u := by
  cases hm <;> exact ⟨h.running, h.noFault, h.phase, h.unbounded, rfl, h.decodes, h.runs, h.faultless⟩

/-- The last byte of the frame dispatches it (R119, R154). -/
theorem Receiving.complete (h : Receiving F i w rest t [b] s) (hlast : F.getLastD 0#8 = b) :
    complete F (withRead b w rest s) = .next t := by
  have hruns := h.runs
  rw [atDispatch, hlast] at hruns
  have hd : decodeFrame (withRead b w rest s).cfg F = .ok i := h.decodes
  simp only [Machine.complete, hd]
  exact (congrArg _ hruns).trans (keepOnlyFault_of_no_fault h.faultless)

/-! ## The Framer's answer to each byte of a unit -/

variable {v : State}

theorem framerByte_sync (hb : b = v.cfg.sync) (hx : v.rxState = .hunt) :
    framerByte b v = .next { v with rxBuf := [], rxState := .type } := by
  simp [framerByte, huntByte, hx, hb]

theorem framerByte_iMark (hb : b = v.cfg.iMark) (hx : v.rxState = .type) :
    framerByte b v = .next { v with rxBuf := [v.cfg.iMark], rxNeed := 2, rxState := .len } := by
  simp [framerByte, typeByte, hx, hb]

theorem framerByte_uMark (hc : v.cfg.WellFormed = true) (hb : b = v.cfg.uMark) (hx : v.rxState = .type) :
    framerByte b v = .next { v with rxBuf := [v.cfg.uMark], rxNeed := 3, rxState := .bodyU } := by
  simp [framerByte, typeByte, hx, hb, Config.uMark_ne_iMark hc]

theorem framerByte_aMark (hc : v.cfg.WellFormed = true) (hb : b = v.cfg.aMark) (hx : v.rxState = .type) :
    framerByte b v = complete [b] v := by
  simp [framerByte, typeByte, hx, hb, Config.aMark_ne_iMark hc, Config.aMark_ne_uMark hc]

/-- A length copy's byte that is not its last (R115). -/
theorem framerByte_len_more (hx : v.rxState = .len) (hneed : v.rxNeed - 1 ≠ 0) :
    framerByte b v = .next { v with rxBuf := v.rxBuf ++ [b], rxNeed := v.rxNeed - 1 } := by
  simp [framerByte, lenByte, hx, hneed]

/-- A length copy's last byte, with an admitted length (R115). -/
theorem framerByte_len_last (hx : v.rxState = .len) (hneed : v.rxNeed - 1 = 0)
    (hmax : lengthOf (halfAt (v.rxBuf ++ [b]) 1) ≤ v.cfg.rxMaxPayload) :
    framerByte b v = .next { v with
      rxBuf := v.rxBuf ++ [b], rxNeed := lengthOf (halfAt (v.rxBuf ++ [b]) 1) + 8, rxState := .bodyI } := by
  simp [framerByte, lenByte, hx, hneed, Nat.not_lt.2 hmax]

/-- The two states of the synchronizer that read a frame's body. -/
def InBody (x : RxState) : Prop := x = .bodyI ∨ x = .bodyU

theorem framerByte_body_more (hx : InBody v.rxState) (hneed : v.rxNeed - 1 ≠ 0) :
    framerByte b v = .next { v with rxBuf := v.rxBuf ++ [b], rxNeed := v.rxNeed - 1 } := by
  obtain hx | hx := hx <;> simp only [framerByte, hx, bodyByte, if_neg hneed]

theorem framerByte_body_last (hx : InBody v.rxState) (hneed : v.rxNeed - 1 = 0) :
    framerByte b v = Machine.complete (v.rxBuf ++ [b]) v := by
  obtain hx | hx := hx <;> simp only [framerByte, hx, bodyByte, if_pos hneed]

/-! ## The reading of a unit -/

/-- The bytes of a body are counted down to the last one, which completes the frame (R116, R117). -/
theorem Receiving.run_body (h : Receiving F i w rest t todo s) (hx : InBody s.rxState)
    (hneed : s.rxNeed = todo.length) (hbuf : s.rxBuf ++ todo = F) (hne : todo ≠ []) :
    Sys2Proof.core.run todo.length s = .next t := by
  induction todo generalizing s with
  | nil => exact absurd rfl hne
  | cons b todo ih =>
    cases todo with
    | nil =>
      have hlast : s.rxNeed - 1 = 0 := by simp [hneed]
      have hcomplete := h.complete (by simp [← hbuf])
      rw [← hbuf] at hcomplete
      exact run_succ_of_step ((h.step_eq.trans (framerByte_body_last hx hlast)).trans hcomplete) 0
    | cons b' todo =>
      have hmore : s.rxNeed - 1 ≠ 0 := by simp [hneed]
      have hin : s.rxState ≠ .hunt ∧ s.rxState ≠ .type := by obtain hx | hx := hx <;> simp [hx]
      have hmove := h.move (.more b hin.1 hin.2 hmore)
      rw [List.length_cons, run_succ_of_step (h.step_eq.trans (framerByte_body_more hx hmore))]
      exact ih hmove hx (by simp [withRead, hneed]) (by simp [withRead, ← hbuf]) (by simp)

/-- The last byte of the first length copy sets the length of the body. -/
theorem Receiving.run_len_last (h : Receiving F i w rest t (b :: todo) s) (hx : s.rxState = .len) (hneed : s.rxNeed = 1)
    (hbuf : s.rxBuf ++ b :: todo = F) (hread : s.rxBuf.length = 2) (hlength : F.length = lengthOf (halfAt F 1) + 11)
    (hmax : lengthOf (halfAt F 1) ≤ s.cfg.rxMaxPayload) : Sys2Proof.core.run (todo.length + 1) s = .next t := by
  have hfield : halfAt (s.rxBuf ++ [b]) 1 = halfAt F 1 := by
    rw [← hbuf, List.append_cons s.rxBuf b todo]
    exact (halfAt_append_of_lt (by simp [hread]) todo).symm
  rw [← hfield] at hlength hmax
  have hlast : s.rxNeed - 1 = 0 := by simp [hneed]
  have htodo : lengthOf (halfAt (s.rxBuf ++ [b]) 1) + 8 = todo.length := by
    have := congrArg List.length hbuf
    simp only [List.length_append, List.length_cons] at this
    omega
  rw [run_succ_of_step (h.step_eq.trans (framerByte_len_last hx hlast hmax))]
  refine (h.move (.body b hx hlast hmax)).run_body (.inl rfl) htodo ?_ ?_
  · simp [withRead, ← hbuf]
  · exact List.ne_nil_of_length_pos (by omega)

theorem Receiving.run_iFrame {seq : Half} {more : Bool} {p : List Byte} (hF : F = iFrameBytes s.cfg seq more p)
    (h : Receiving F i w rest t F s) (hc : s.cfg.WellFormed = true) (hp : p.length ≤ s.cfg.rxMaxPayload)
    (hx : s.rxState = .type) : Sys2Proof.core.run F.length s = .next t := by
  obtain ⟨-, -, -, ⟨hrx, -⟩, -⟩ := s.cfg.wellFormed_iff.1 hc
  have hL : lengthOf (halfAt F 1) = p.length := by
    rw [hF, halfAt_iFrameBytes_1, lengthOf_lengthField more p.length (hp.trans hrx)]
  have hlength : F.length = lengthOf (halfAt F 1) + 11 := by rw [hL, hF, length_iFrameBytes]
  obtain ⟨lo, hi, body, heq⟩ : ∃ lo hi body, F = s.cfg.iMark :: lo :: hi :: body := ⟨_, _, _, hF⟩
  subst heq
  have hmark := h.move (.typeI hx)
  have hlow := hmark.move (.more lo nofun nofun (by simp [withRead]))
  calc Sys2Proof.core.run (body.length + 3) s
    _ = Sys2Proof.core.run (body.length + 2) _ := run_succ_of_step (h.step_eq.trans (framerByte_iMark rfl hx)) _
    _ = Sys2Proof.core.run (body.length + 1) _ :=
      run_succ_of_step (hmark.step_eq.trans (framerByte_len_more rfl (by simp [withRead]))) _
    _ = .next t := hlow.run_len_last rfl rfl rfl rfl hlength (hL.trans_le hp)

theorem Receiving.run_uFrame {code : Byte} (hF : F = uFrame s.cfg code) (h : Receiving F i w rest t F s)
    (hc : s.cfg.WellFormed = true) (hx : s.rxState = .type) : Sys2Proof.core.run F.length s = .next t := by
  subst hF
  exact (run_succ_of_step (h.step_eq.trans (framerByte_uMark hc rfl hx)) 3).trans
    ((h.move (.typeU hx)).run_body (.inr rfl) rfl rfl (by simp))

theorem Receiving.run_aFrame (hF : F = aFrameBytes s.cfg) (h : Receiving F i w rest t F s)
    (hc : s.cfg.WellFormed = true) (hx : s.rxState = .type) : Sys2Proof.core.run F.length s = .next t := by
  subst hF
  exact run_succ_of_step ((h.step_eq.trans (framerByte_aMark hc rfl hx)).trans (h.complete rfl)) 0

/-- What encodes to a frame: an I-frame, the A-frame or the U-frame of a code (R81, R86, R89). -/
theorem encode_frame_cases {c : Config} (h : encode c i = .frame F) :
    (∃ seq more p, i = .iFrame seq more p ∧ F = iFrameBytes c seq more p) ∨ F = aFrameBytes c ∨
      ∃ code, F = uFrame c code := by
  cases i <;> cases h
  case iFrame seq more p => exact .inl ⟨seq, more, p, rfl, rfl⟩
  case aFrame => exact .inr (.inl rfl)
  all_goals exact .inr (.inr ⟨_, rfl⟩)

/-- From TYPE, a frame's bytes run its instruction, whatever its kind. -/
theorem Receiving.run_frame (henc : encode s.cfg i = .frame F) (h : Receiving F i w rest t F s)
    (hc : s.cfg.WellFormed = true) (hi : i.WellFormed s.cfg = true) (hx : s.rxState = .type) :
    Sys2Proof.core.run F.length s = .next t := by
  obtain ⟨seq, more, p, rfl, hF⟩ | hF | ⟨code, hF⟩ := encode_frame_cases henc
  · exact h.run_iFrame hF hc (of_decide_eq_true hi) hx
  · exact h.run_aFrame hF hc hx
  · exact h.run_uFrame hF hc hx

/-- Settles O31: SYNC leads from HUNT to TYPE, and from there the frame's own bytes are read. -/
theorem aFrameReadByteByByteRunsItsInstruction : Obligations.AFrameReadByteByByteRunsItsInstruction := by
  intro s t i F w rest hc hw hi henc hrun hfault hphase hx hbuf hneed hsched hexec ht
  have hdecode : decodeFrame s.cfg F = .ok i := by
    have := decodingAnEncodedInstructionGivesItBack s.cfg i hc hi
    rwa [henc] at this
  have hcleared : discardPartial s = s := by
    rw [discardPartial, ← hbuf, ← hneed, ← hx]
  have hstart : Receiving F i w rest t (s.cfg.sync :: F) s :=
    ⟨hrun, hfault, hphase, hw, hsched, hdecode, by rw [atDispatch, hcleared]; exact hexec, ht⟩
  exact (run_succ_of_step (hstart.step_eq.trans (framerByte_sync rfl hx)) _).trans
    ((hstart.move (.sync hx)).run_frame henc hc hi rfl)

end Sys2Proof.Machine
end

section
/-! SUPPORT. The checks of a complete frame as equivalences, each answer of a Framer step's read, and the settled statements on the decoder and on phase 1 (R112 to R124, R149, R154, R202). -/

namespace Sys2Proof.Machine

/-! ## The checks of a complete frame (R121, R122) -/

section Checks

variable {c : Config} {i : Instr}

/-- A byte that is present is the one that `getD` reads. -/
theorem getD_eq_iff_getElem? {F : List Byte} {n : Nat} (h : n < F.length) (b : Byte) :
    F.getD n 0#8 = b ↔ F[n]? = some b := by
  simp [List.getD_eq_getElem?_getD, List.getElem?_eq_getElem h]

/-- The five checks of `validate_I`; the first two hold of every frame that the Framer completes. -/
theorem decodeI_eq_ok_iff {F : List Byte} :
    decodeI c F = .ok i ↔
      lengthOf (halfAt F 1) ≤ c.rxMaxPayload ∧ F.length = lengthOf (halfAt F 1) + 11 ∧ halfAt F 1 = halfAt F 3 ∧
      (c.strictMarkers = true → F.getD 5 0#8 = c.iMark ∧ F.getD (10 + lengthOf (halfAt F 1)) 0#8 = c.endMark) ∧
      c.crc16 ((F.drop 6).take (2 + lengthOf (halfAt F 1))) = halfAt F (8 + lengthOf (halfAt F 1)) ∧
      i = .iFrame (halfAt F 6) (halfAt F 1).msb ((F.drop 8).take (lengthOf (halfAt F 1))) := by
  simp only [decodeI]
  split_ifs with hmax hlength hcopies hmarkers hcrc
  · simp [Nat.not_le.2 hmax]
  · simp [hlength]
  · simp [hcopies]
  · grind
  · simp [hcrc]
  · have hmarks : c.strictMarkers = true → F.getD 5 0#8 = c.iMark ∧ F.getD (10 + lengthOf (halfAt F 1)) 0#8 = c.endMark := by
      simpa [not_or] using hmarkers
    refine ⟨fun h => ⟨Nat.not_lt.1 hmax, not_not.1 hlength, not_not.1 hcopies, hmarks, not_not.1 hcrc, ?_⟩, ?_⟩
    · cases h
      rfl
    · rintro ⟨-, -, -, -, -, rfl⟩
      rfl

/-- A code is recognized exactly when it stands in R87's table, and then as its row's frame. -/
theorem instrOfCode_eq_ok_iff (hc : c.CodesDistinct) {code : Byte} :
    instrOfCode c code = .ok i ↔ (code, i) ∈ controlCodes c := by
  refine ⟨fun h => ?_, instrOfCode_of_mem_controlCodes hc⟩
  unfold instrOfCode at h
  split_ifs at h <;> cases h <;> simp [controlCodes, *]

/-- The three checks of `validate_U`. -/
theorem decodeU_eq_ok_iff (hc : c.CodesDistinct) {mark code cs8 last : Byte} :
    decodeU c [mark, code, cs8, last] = .ok i ↔
      (c.strictMarkers = true → last = c.endMark) ∧ c.crc8 code = cs8 ∧ (code, i) ∈ controlCodes c := by
  rw [← instrOfCode_eq_ok_iff hc]
  simp only [decodeU]
  split_ifs with hmarker hcrc
  · simp [hmarker]
  · simp [hcrc]
  · have hend : c.strictMarkers = true → last = c.endMark := by simpa using hmarker
    exact ⟨fun h => ⟨hend, not_not.1 hcrc, h⟩, fun ⟨_, _, h⟩ => h⟩

end Checks

/-- Settles O7: the frame has its length, so its marker bytes are present, and what is left of `validate_I` are its checks. -/
theorem iFrameIsRecognizedExactlyWhenItsChecksPass : Obligations.IFrameIsRecognizedExactlyWhenItsChecksPass := by
  intro c F i L hmark hlength hmax
  obtain ⟨body, rfl⟩ := List.head?_eq_some_iff.1 hmark
  have htype : decodeFrame c (c.iMark :: body) = decodeI c (c.iMark :: body) := if_pos rfl
  rw [htype, decodeI_eq_ok_iff, getD_eq_iff_getElem? (by omega), getD_eq_iff_getElem? (by omega)]
  simp only [hlength, hmax, true_and, L]

/-- Settles O8: the type byte leads to `validate_U`, whose table of codes is R87's in another order. -/
theorem uFrameIsRecognizedExactlyWhenItsChecksPass : Obligations.UFrameIsRecognizedExactlyWhenItsChecksPass := by
  intro c code cs8 last i hc
  obtain ⟨-, hcodes, -⟩ := c.wellFormed_iff.1 hc
  have htype : decodeFrame c [c.uMark, code, cs8, last] = decodeU c [c.uMark, code, cs8, last] :=
    (if_neg (Config.uMark_ne_iMark hc)).trans (if_pos rfl)
  rw [htype, decodeU_eq_ok_iff hcodes]
  refine and_congr_right' (and_congr_right' ?_)
  simp only [controlCodes, Config.codeStart, Config.codeStartCon, Config.codeTest, Config.codeTestCon, List.mem_cons,
    List.not_mem_nil, or_false]
  grind

/-! ## A Framer step by its state and its read's answer (R112 to R118) -/

section Framer

variable {v t : State} {b : Byte} {i : Instr} {F : List Byte}

theorem engineStep_rx_byte (hp : v.phase = .rx) (hd : v.rxDraw = .byte b) : engineStep v = framerByte b v := by
  simp only [engineStep, hp, framerStep, hd]

theorem engineStep_rx_timeout (hp : v.phase = .rx) (hd : v.rxDraw = .timeout) :
    engineStep v = .next (framerTimeout v) := by
  simp only [engineStep, hp, framerStep, hd]

theorem engineStep_rx_error (hp : v.phase = .rx) (hd : v.rxDraw = .error) :
    engineStep v = .next (fatalReset .transportRead v) := by
  simp only [engineStep, hp, framerStep, hd]

/-- Within a frame every read is of the inter-character class (R112). -/
theorem readTimeout_of_not_hunt (hx : v.rxState ≠ .hunt) : readTimeout v = v.cfg.tChar := by
  cases h : v.rxState <;> simp_all [readTimeout, readClass]

/-- Within a frame a timeout discards what was read (R118). -/
theorem framerTimeout_of_not_hunt (hx : v.rxState ≠ .hunt) : framerTimeout v = discardPartial v := by
  cases h : v.rxState <;> simp_all [framerTimeout]

/-- What all the states within a frame have in common: the class of the read, and its answers that are no byte. -/
theorem engineStep_within_frame (hp : v.phase = .rx) (hx : v.rxState ≠ .hunt) :
    readTimeout v = v.cfg.tChar ∧ (v.rxDraw = .timeout → engineStep v = .next (discardPartial v)) ∧
    (v.rxDraw = .error → engineStep v = .next (fatalReset .transportRead v)) :=
  ⟨readTimeout_of_not_hunt hx, fun hd => framerTimeout_of_not_hunt hx ▸ engineStep_rx_timeout hp hd,
    engineStep_rx_error hp⟩

theorem framerByte_hunt_skip (hb : b ≠ v.cfg.sync) (hx : v.rxState = .hunt) : framerByte b v = .next v := by
  simp [framerByte, huntByte, hx, hb]

theorem framerByte_no_mark (hi : b ≠ v.cfg.iMark) (hu : b ≠ v.cfg.uMark) (ha : b ≠ v.cfg.aMark) (hx : v.rxState = .type) :
    framerByte b v = .next (discardPartial v) := by
  simp [framerByte, typeByte, hx, hi, hu, ha]

/-- A length copy's last byte, with a length above RX_MAX_PAYLOAD (R115). -/
theorem framerByte_len_over (hx : v.rxState = .len) (hneed : v.rxNeed - 1 = 0)
    (hmax : v.cfg.rxMaxPayload < lengthOf (halfAt (v.rxBuf ++ [b]) 1)) :
    framerByte b v = .next (discardPartial v) := by
  simp [framerByte, lenByte, hx, hneed, hmax, discardPartial]

/-! ## A complete frame (R119, R124) -/

theorem complete_of_ok (hd : decodeFrame v.cfg F = .ok i) :
    complete F v = keepOnlyFault v (exec i (discardPartial v)) := by
  simp only [complete, hd]

theorem complete_of_reject {e : DecodeError} (hd : decodeFrame v.cfg F = .reject e) :
    complete F v = .next (dropFrame (discardPartial v)) := by
  simp only [complete, hd]

/-- Nothing in the A-frame's rule faults (R152). -/
theorem exec_aFrame_fault (h : exec .aFrame v = .next t) : t.fault = v.fault := by
  cases h
  split <;> rfl

/-- The A-frame, complete at its type byte, runs (R120). -/
theorem complete_aFrame (hc : v.cfg.WellFormed = true) (hf : v.fault = false) :
    complete [v.cfg.aMark] v = exec .aFrame (discardPartial v) := by
  obtain ⟨t, ht⟩ := exec_next .aFrame (discardPartial v)
  have hdecode : decodeFrame v.cfg [v.cfg.aMark] = .ok .aFrame := decodeFrame_aFrameBytes hc
  rw [complete_of_ok hdecode, ht]
  exact keepOnlyFault_of_no_fault ((exec_aFrame_fault ht).trans hf)

end Framer

/-! ## The settled statements on the synchronizer's steps -/

/-- Settles O32: by the answer of the read, which in HUNT waits T_IDLE. -/
theorem huntStepSkipsToSync : Obligations.HuntStepSkipsToSync := by
  intro s hp hx
  refine ⟨?timeout, fun hd => ?sync, fun b hb hd => ?skip, fun hd => ?quiet, engineStep_rx_error hp⟩
  case timeout => simp only [readTimeout, hx, readClass]
  case sync => exact (engineStep_rx_byte hp hd).trans (framerByte_sync rfl hx)
  case skip => exact (engineStep_rx_byte hp hd).trans (framerByte_hunt_skip hb hx)
  case quiet => rw [engineStep_rx_timeout hp hd, framerTimeout, hx]

/-- Settles O33: by the byte's mark, which are distinct. -/
theorem typeStepSelectsTheFrameKind : Obligations.TypeStepSelectsTheFrameKind := by
  intro s hc hp hx
  obtain ⟨hclass, htimeout, herror⟩ := engineStep_within_frame hp (by simp [hx])
  refine ⟨hclass, fun hd => ?iMark, fun hd => ?uMark, fun hf hd => ?aMark, fun b hi hu ha hd => ?noMark, htimeout, herror⟩
  case iMark => exact (engineStep_rx_byte hp hd).trans (framerByte_iMark rfl hx)
  case uMark => exact (engineStep_rx_byte hp hd).trans (framerByte_uMark hc rfl hx)
  case aMark => exact ((engineStep_rx_byte hp hd).trans (framerByte_aMark hc rfl hx)).trans (complete_aFrame hc hf)
  case noMark => exact (engineStep_rx_byte hp hd).trans (framerByte_no_mark hi hu ha hx)

/-- Settles O34: the bytes after the mark are the length field, low byte first. -/
theorem lenStepReadsTheFirstLengthCopy : Obligations.LenStepReadsTheFirstLengthCopy := by
  intro s hp hx _
  obtain ⟨hclass, htimeout, herror⟩ := engineStep_within_frame hp (by simp [hx])
  refine ⟨hclass, fun b hd hneed => ?more, fun m lo b hd hneed hbuf => ?last, htimeout, herror⟩
  case more => exact (engineStep_rx_byte hp hd).trans (framerByte_len_more hx (by omega))
  case last =>
    intro L
    have hL : lengthOf (halfAt (s.rxBuf ++ [b]) 1) = L := by rw [hbuf]; rfl
    have hlast : s.rxNeed - 1 = 0 := by omega
    refine ⟨fun hmax => ?tooLong, fun hmax => ?admitted⟩
    case tooLong => exact (engineStep_rx_byte hp hd).trans (framerByte_len_over hx hlast (hL ▸ hmax))
    case admitted =>
      rw [engineStep_rx_byte hp hd, framerByte_len_last hx hlast (hL ▸ hmax), hL, hbuf]
      rfl

/-- Settles O35: the last byte completes the frame, which is dropped or runs. -/
theorem bodyStepCountsBytesAndHandsOff : Obligations.BodyStepCountsBytesAndHandsOff := by
  intro s hp hx _
  have hframe : s.rxState ≠ .hunt := by obtain hx | hx := hx <;> simp [hx]
  obtain ⟨hclass, htimeout, herror⟩ := engineStep_within_frame hp hframe
  have last {b : Byte} (hd : s.rxDraw = .byte b) (hneed : s.rxNeed = 1) :
      engineStep s = complete (s.rxBuf ++ [b]) s :=
    (engineStep_rx_byte hp hd).trans (framerByte_body_last hx (by omega))
  refine ⟨hclass, fun b hd hneed => ?more, fun b e hd hneed hreject => ?dropped,
    fun b i t hd hneed hok hexec ht => ?ran, htimeout, herror⟩
  case more => exact (engineStep_rx_byte hp hd).trans (framerByte_body_more hx (by omega))
  case dropped => exact (last hd hneed).trans (complete_of_reject hreject)
  case ran =>
    have hexec : exec i (discardPartial s) = .next t := hexec
    rw [last hd hneed, complete_of_ok hok, hexec, keepOnlyFault_of_no_fault ht]

/-! ## The step that reads a byte in phase 1 (R119, R120, R154, R202) -/

section ReadStep

variable {s : State} {b : Byte} {w : WriteResult} {rest : List Action}

/-- The Framer changes no parameter, so with unbounded time its step passes the time check. -/
theorem withinTime_framerStep {v : State} (h : v.cfg.timeW = none) : withinTime (framerStep v) = framerStep v :=
  withinTime_of_unbounded fun _ ht => (framerStep_end ht).sameCfgNow.1 ▸ h

/-- The step of an enabled ENGINE that reads a byte in phase 1 is the Framer's answer to that byte, inside the time check. -/
theorem step_reads_byte (hsched : s.sched = .engine (.byte b) w :: rest) (hrun : s.running = true) (hf : s.fault = false)
    (hp : s.phase = .rx) {o : Outcome} (ho : framerByte b (withRead b w rest s) = o) :
    step s = withinTime o ∧ (s.cfg.timeW = none → step s = o) := by
  have hact : act (.engine (.byte b) w) { s with sched := rest } = framerStep (withRead b w rest s) := by
    simp [act, engineEnabled, engineStep, withRead, hrun, hf, hp]
  have hframer : framerStep (withRead b w rest s) = o := ho
  have hstep : step s = withinTime o := by rw [step_of_sched hsched, hact, hframer]
  refine ⟨hstep, fun hw => hstep.trans ?_⟩
  rw [← hframer]
  exact withinTime_framerStep hw

end ReadStep

/-- Settles O12: the last byte completes the frame, and of a dispatch that faults only the fault is kept. -/
theorem stepRunsTheReceivedFrame : Obligations.StepRunsTheReceivedFrame := by
  intro s t b w rest i hsched hrun hf hp hx hneed hdecode hexec u
  refine step_reads_byte hsched hrun hf hp ?_
  have hlast : (withRead b w rest s).rxNeed - 1 = 0 := by simp [withRead, hneed]
  have hexec : exec i (discardPartial (withRead b w rest s)) = .next t := hexec
  calc framerByte b (withRead b w rest s)
    _ = complete (s.rxBuf ++ [b]) (withRead b w rest s) := framerByte_body_last hx hlast
    _ = keepOnlyFault (withRead b w rest s) (exec i (discardPartial (withRead b w rest s))) := complete_of_ok hdecode
    _ = keepOnlyFault (withRead b w rest s) (.next t) := by rw [hexec]
    _ = .next u := by
      cases ht : t.fault with
      | true => simp [keepOnlyFault_of_fault ht, u, ht, withRead]
      | false => simp [keepOnlyFault_of_no_fault ht, u, ht]

/-- Settles O13: the type byte completes the A-frame, which cannot fault. -/
theorem stepRunsTheAFrameAtItsTypeByte : Obligations.StepRunsTheAFrameAtItsTypeByte := by
  intro s w rest hc hsched hrun hf hp hx o
  refine step_reads_byte hsched hrun hf hp ?_
  exact (framerByte_aMark (v := withRead s.cfg.aMark w rest s) hc rfl hx).trans (complete_aFrame hc hf)

end Sys2Proof.Machine
end

section
/-! SUPPORT. What each received frame does at dispatch, what moves `link_state`, and the settled statements of 41_engine_rx.md on them (R26, R140 to R156, R201 to R203). -/

namespace Sys2Proof.Machine

/-! ## The act frames and the confirm frames (R141 to R148, R153, R156) -/

section UFrames

variable {code : Byte} {rest : State → State} {s : State}

/-- SYNC and a U-frame are 5 bytes: with all of them written, the reply is logged and the rest of the rule runs. -/
theorem replyThen_whole (h : s.txDraw = .count 5) :
    replyThen code rest s = endDispatch (rest { recognized s with
      txLog := s.txLog ++ [(s.cfg.sync :: uFrame s.cfg code, .ok)] }) := sendThen_ok h

theorem replyThen_not_whole (h : s.txDraw ≠ .count 5) :
    replyThen code rest s = fatalReset .transportWrite { recognized s with
      txLog := s.txLog ++ [(s.cfg.sync :: uFrame s.cfg code, .fail)] } := sendThen_fail h

theorem confirmThen_headIsSentControl (h : HeadIsSentControl code s) :
    confirmThen code rest s = endDispatch (rest (popHead (recognized s))) :=
  confirmThen_of_match ((headConfirmedBy_iff code s).2 h)

theorem confirmThen_not_headIsSentControl (h : ¬ HeadIsSentControl code s) :
    confirmThen code rest s = endDispatch (recognized s) :=
  confirmThen_of_no_match (Bool.eq_false_of_not_eq_true (mt (headConfirmedBy_iff code s).1 h))

/-- The two ends of a received act frame, by the write of its reply (R11, R230). -/
theorem exec_of_replyThen {i : Instr} (hexec : exec i s = .next (replyThen code rest s)) :
    (s.txDraw = .count 5 → exec i s = .next (endDispatch (rest { recognized s with
      txLog := s.txLog ++ [(s.cfg.sync :: uFrame s.cfg code, .ok)] }))) ∧
    (s.txDraw ≠ .count 5 → exec i s = .next (fatalReset .transportWrite { recognized s with
      txLog := s.txLog ++ [(s.cfg.sync :: uFrame s.cfg code, .fail)] })) :=
  ⟨fun h => hexec.trans (congrArg _ (replyThen_whole h)), fun h => hexec.trans (congrArg _ (replyThen_not_whole h))⟩

/-- The two ends of a received confirm frame, by the queue's head (R153). -/
theorem exec_of_confirmThen {i : Instr} (hexec : exec i s = .next (confirmThen code rest s)) :
    (HeadIsSentControl code s → exec i s = .next (endDispatch (rest (popHead (recognized s))))) ∧
    (¬ HeadIsSentControl code s → exec i s = .next (endDispatch (recognized s))) :=
  ⟨fun h => hexec.trans (congrArg _ (confirmThen_headIsSentControl h)),
    fun h => hexec.trans (congrArg _ (confirmThen_not_headIsSentControl h))⟩

/-- Clearing the probe counter once more adds nothing to the liveness writes (R140, R148). -/
theorem exec_uTestCon_eq (s : State) : exec .uTestCon s = .next (confirmThen s.cfg.codeTest id s) := rfl

end UFrames

/-- Settles O38: the frame's code is START's, and its reply is written whole or not. -/
theorem receivedStartIsConfirmed : Obligations.ReceivedStartIsConfirmed :=
  ⟨fun c hc => decodeFrame_uFrame_of_mem_controlCodes hc (code := c.codeStart) (by simp [controlCodes]),
    fun s => (exec_of_replyThen (i := .uStart) (s := s) rfl :)⟩

/-- Settles O39: the frame's code is RESET's, and its reply is written whole or not. -/
theorem receivedResetClearsTheReceiver : Obligations.ReceivedResetClearsTheReceiver :=
  ⟨fun c hc => decodeFrame_uFrame_of_mem_controlCodes hc (code := c.codeReset) (by simp [controlCodes]),
    fun s => (exec_of_replyThen (i := .uReset) (s := s) rfl :)⟩

/-- Settles O40: the frame's code is STOP's, and its reply is written whole or not. -/
theorem receivedStopIsConfirmed : Obligations.ReceivedStopIsConfirmed :=
  ⟨fun c hc => decodeFrame_uFrame_of_mem_controlCodes hc (code := c.codeStop) (by simp [controlCodes]),
    fun s => (exec_of_replyThen (i := .uStop) (s := s) rfl :)⟩

/-- Settles O41: the frame's code is TEST's, and its reply is written whole or not. -/
theorem receivedTestIsConfirmed : Obligations.ReceivedTestIsConfirmed :=
  ⟨fun c hc => decodeFrame_uFrame_of_mem_controlCodes hc (code := c.codeTest) (by simp [controlCodes]),
    fun s => (exec_of_replyThen (i := .uTest) (s := s) rfl :)⟩

/-- Settles O42: the frame's code is START-CONFIRM's, and a Sent START is at the head or not. -/
theorem startConfirmPopsItsStart : Obligations.StartConfirmPopsItsStart :=
  ⟨fun c hc => decodeFrame_uFrame_of_mem_controlCodes hc (code := c.codeStartCon) (by simp [controlCodes]),
    fun s => (exec_of_confirmThen (i := .uStartCon) (s := s) rfl :)⟩

/-- Settles O43: the frame's code is RESET-CONFIRM's, and a Sent RESET is at the head or not. -/
theorem resetConfirmRestartsTheSender : Obligations.ResetConfirmRestartsTheSender :=
  ⟨fun c hc => decodeFrame_uFrame_of_mem_controlCodes hc (code := c.codeResetCon) (by simp [controlCodes]),
    fun s => (exec_of_confirmThen (i := .uResetCon) (s := s) rfl :)⟩

/-- Settles O44: the frame's code is STOP-CONFIRM's, and a Sent STOP is at the head or not. -/
theorem stopConfirmPopsItsStop : Obligations.StopConfirmPopsItsStop :=
  ⟨fun c hc => decodeFrame_uFrame_of_mem_controlCodes hc (code := c.codeStopCon) (by simp [controlCodes]),
    fun s => (exec_of_confirmThen (i := .uStopCon) (s := s) rfl :)⟩

/-- Settles O45: the frame's code is TEST-CONFIRM's, and a Sent TEST is at the head or not. -/
theorem testConfirmClearsTheProbeCount : Obligations.TestConfirmClearsTheProbeCount :=
  ⟨fun c hc => decodeFrame_uFrame_of_mem_controlCodes hc (code := c.codeTestCon) (by simp [controlCodes]),
    fun s => (exec_of_confirmThen (exec_uTestCon_eq s) :)⟩

/-! ## The A-frame and the I-frame (R150 to R152, R201, R202) -/

/-- Settles O47: the model tests the head for a Sent I-frame. -/
theorem aFrameAcknowledgesTheSentIFrame : Obligations.AFrameAcknowledgesTheSentIFrame := by
  intro s
  refine ⟨fun h => ?acknowledged, fun h => ?ignored⟩
  case acknowledged =>
    have hhead : headIsSentI s = true := (headIsSentI_iff s).2 h
    simp only [exec, execAFrame, hhead, if_true]
    rfl
  case ignored =>
    have hhead : ¬ headIsSentI s = true := mt (headIsSentI_iff s).1 h
    simp only [exec, execAFrame, hhead]
    rfl

/-- The state after an I-frame of the next number is taken, and delivered, but its acknowledgment is not written whole (R150, R156). -/
def unacknowledged (more : Bool) (payload : List Byte) (s : State) : State :=
  fatalReset .transportWrite { accepted more payload s with
    txLog := s.txLog ++ [(s.cfg.sync :: aFrameBytes s.cfg, .fail)] }

section IFrame

variable {s : State} {seq : Half} {more : Bool} {payload : List Byte}

theorem exec_iFrame_unacknowledged (hseq : seq = s.recvSeq + 1#16)
    (hroom : s.rb.length + payload.length ≤ s.cfg.reasmCapacity) (hwrite : s.txDraw ≠ .count 2) :
    exec (.iFrame seq more payload) s = .next (unacknowledged more payload s) := by
  subst hseq
  have hfit : fragmentOverflows payload s = false := by simpa [fragmentOverflows] using hroom
  have hsend : acceptI (s.recvSeq + 1#16) more payload s = unacknowledged more payload s := by
    rw [acceptI, onFragment_eq]
    exact sendThen_fail hwrite
  simp [exec, execIFrame, hfit, hsend]

theorem exec_iFrame_overflow (hseq : seq = s.recvSeq + 1#16)
    (hover : s.cfg.reasmCapacity < s.rb.length + payload.length) :
    exec (.iFrame seq more payload) s = .next (raiseFault .reasmOverflow s) := by
  have hfull : fragmentOverflows payload s = true := by simpa [fragmentOverflows] using hover
  simp [exec, execIFrame, hseq, hfull]

theorem exec_iFrame_violation (hseq : seq ≠ s.recvSeq + 1#16) :
    exec (.iFrame seq more payload) s = .next (fatalReset .seqViolation (recognized s)) := by
  simp [exec, execIFrame, hseq]

/-- An I-frame has no other end than these four. -/
theorem exec_iFrame_induct (P : State → Prop) {t : State} (h : exec (.iFrame seq more payload) s = .next t)
    (whole : seq = s.recvSeq + 1#16 → s.rb.length + payload.length ≤ s.cfg.reasmCapacity → s.txDraw = .count 2 →
      P (accepted more payload s))
    (short : seq = s.recvSeq + 1#16 → s.rb.length + payload.length ≤ s.cfg.reasmCapacity → s.txDraw ≠ .count 2 →
      P (unacknowledged more payload s))
    (overflow : seq = s.recvSeq + 1#16 → s.cfg.reasmCapacity < s.rb.length + payload.length →
      P (raiseFault .reasmOverflow s))
    (violation : seq ≠ s.recvSeq + 1#16 → P (fatalReset .seqViolation (recognized s))) : P t := by
  have ends {u : State} (hu : exec (.iFrame seq more payload) s = .next u) (hP : P u) : P t := by
    cases h.symm.trans hu
    exact hP
  by_cases hseq : seq = s.recvSeq + 1#16
  · by_cases hroom : s.rb.length + payload.length ≤ s.cfg.reasmCapacity
    · by_cases hwrite : s.txDraw = .count 2
      · exact ends (exec_iFrame_accepted more hseq hroom hwrite) (whole hseq hroom hwrite)
      · exact ends (exec_iFrame_unacknowledged hseq hroom hwrite) (short hseq hroom hwrite)
    · exact ends (exec_iFrame_overflow hseq (not_le.1 hroom)) (overflow hseq (not_le.1 hroom))
  · exact ends (exec_iFrame_violation hseq) (violation hseq)

end IFrame

/-- Settles O46: the number, the room in the buffer and the write of the acknowledgment decide between four ends. -/
theorem iFrameIsAcceptedFaultsOrViolatesTheSequence : Obligations.IFrameIsAcceptedFaultsOrViolatesTheSequence := by
  intro s seq more payload unit taken
  refine ⟨?accepted, ?unacknowledged, exec_iFrame_overflow, exec_iFrame_violation⟩
  case accepted =>
    rintro rfl hroom hwrite
    exact exec_iFrame_accepted more rfl hroom hwrite
  case unacknowledged =>
    rintro rfl hroom hwrite
    exact exec_iFrame_unacknowledged rfl hroom hwrite

/-! ## What moves `link_state` (R26, R155) -/

/-- A confirm frame's dispatch ends with its match or without. -/
theorem confirmThen_induct (P : State → Prop) {code : Byte} {rest : State → State} {s : State}
    (matched : P (endDispatch (rest (popHead (recognized s))))) (unmatched : P (endDispatch (recognized s))) :
    P (confirmThen code rest s) := by
  by_cases h : HeadIsSentControl code s
  · rwa [confirmThen_headIsSentControl h]
  · rwa [confirmThen_not_headIsSentControl h]

/-- How a dispatch or a step from a `link_state` of `l` can end, when the frames it may dispatch are those of `read` (R155). -/
inductive LinkEnd (read : Instr → Prop) (l : LinkState) : State → Prop where
  /-- No row of the table writes it. -/
  | kept {t : State} : t.linkState = l → LinkEnd read l t
  /-- A fatal condition (R223). -/
  | fatal (cause : FatalCause) (u : State) : LinkEnd read l (fatalReset cause u)
  /-- A START, or a START-CONFIRM with its match (R141, R142). -/
  | active {i : Instr} {t : State} : read i → i ∈ [.uStart, .uStartCon] → t.linkState = .active → LinkEnd read l t
  /-- A STOP, or a STOP-CONFIRM with its match (R145, R146). -/
  | stopped {i : Instr} {t : State} : read i → i ∈ [.uStop, .uStopCon] → t.linkState = .stopped → LinkEnd read l t

section LinkEnds

variable {read read' : Instr → Prop} {l : LinkState} {s t : State}

/-- An A-frame moves no `link_state`, so whether it is one of the frames dispatched does not count. -/
theorem LinkEnd.imp (himp : ∀ i, i ≠ .aFrame → read i → read' i) (h : LinkEnd read l t) : LinkEnd read' l t := by
  cases h with
  | kept h => exact .kept h
  | fatal c u => exact .fatal c u
  | active hi hmem h => exact .active (himp _ (by rintro rfl; simp at hmem) hi) hmem h
  | stopped hi hmem h => exact .stopped (himp _ (by rintro rfl; simp at hmem) hi) hmem h

theorem exec_frame_linkEnd {i : Instr} (hi : i.isCommand = false) (h : exec i s = .next t) :
    LinkEnd (· = i) s.linkState t := by
  cases i <;> simp only [Instr.isCommand, Bool.true_eq_false] at hi
  case iFrame seq more p =>
    exact exec_iFrame_induct _ h (fun _ _ _ => .kept rfl) (fun _ _ _ => .fatal ..) (fun _ _ => .kept rfl)
      (fun _ => .fatal ..)
  case aFrame =>
    cases h
    split <;> exact .kept rfl
  case uStart =>
    cases h
    exact sendThen_induct _ (.active rfl (by simp) rfl) (.fatal ..)
  case uStop =>
    cases h
    exact sendThen_induct _ (.stopped rfl (by simp) rfl) (.fatal ..)
  case uReset | uTest =>
    cases h
    exact sendThen_induct _ (.kept rfl) (.fatal ..)
  case uStartCon =>
    cases h
    exact confirmThen_induct _ (.active rfl (by simp) rfl) (.kept rfl)
  case uStopCon =>
    cases h
    exact confirmThen_induct _ (.stopped rfl (by simp) rfl) (.kept rfl)
  case uResetCon =>
    cases h
    exact confirmThen_induct _ (.kept rfl) (.kept rfl)
  case uTestCon =>
    cases h.symm.trans (exec_uTestCon_eq s)
    exact confirmThen_induct _ (.kept rfl) (.kept rfl)

theorem exec_command_linkState {i : Instr} (hi : i.isCommand = true) (h : exec i s = .next t) :
    t.linkState = s.linkState :=
  exec_command_induct (fun u => u.linkState = s.linkState) hi h (fun _ _ hu => hu) rfl rfl (fun _ => rfl) rfl
    (fun _ _ _ => rfl) (fun _ _ => rfl)

/-- The instruction `i` is the frame that the move `a` completes in phase 1. -/
def CompletesFrame (a : Action) (u : State) (i : Instr) : Prop :=
  ∃ b w, a = .engine (.byte b) w ∧ u.phase = .rx ∧ decodeFrame u.cfg (u.rxBuf ++ [b]) = .ok i

theorem FramerEnd.linkEnd {r : ReadAnswer} {w : WriteResult} (hp : s.phase = .rx)
    (h : FramerEnd { s with rxDraw := r, txDraw := w } t) :
    LinkEnd (CompletesFrame (.engine r w) s) s.linkState t := by
  cases h with
  | move hm => cases hm <;> exact .kept rfl
  | discarded | dropped | quiet | faulted => exact .kept rfl
  | readFailed => exact .fatal ..
  | ran hread hx _ =>
    refine (exec_frame_linkEnd hread.isCommand hx).imp ?_
    rintro i hne rfl
    obtain ⟨b, rfl, hdecode | ⟨-, hA⟩⟩ := hread
    · exact ⟨b, w, rfl, hp, hdecode⟩
    · exact absurd hA hne

theorem act_linkEnd {a : Action} (h : act a s = .next t) : LinkEnd (CompletesFrame a s) s.linkState t := by
  cases a with
  | host bytes =>
    simp only [act, hostStep] at h
    split at h
    · exact .kept (exec_command_linkState (decodeCommand_isCommand ‹_›) h)
    · cases h
      exact .kept rfl
  | clock d =>
    cases h
    exact .kept rfl
  | engine r w =>
    simp only [act] at h
    split at h
    · simp only [engineStep] at h
      split at h
      case h_2 hp => exact (framerStep_end h).linkEnd hp
      all_goals cases h
      · exact boundaryStep_induct _ (fun _ => .kept rfl) (fun _ => .kept rfl)
      · exact txStep_induct _ (.kept rfl) (fun _ _ _ _ => .kept rfl) (fun _ _ _ _ => .fatal ..)
      · exact hbStep_induct _ (.kept rfl) (fun _ _ => .kept rfl) (fun _ _ => .fatal ..) (.fatal ..)
      · exact rtStep_induct _ (.kept rfl) (fun _ _ _ _ => .kept rfl) (fun _ _ _ _ => .fatal ..)
    · cases h
      exact .kept rfl

theorem step_linkEnd (h : step s = .next t) : LinkEnd (CompletesFrame (nextAction s) s) s.linkState t := by
  obtain ⟨hact, -⟩ := withinTime_next h
  obtain ⟨sched, turn, hdraw⟩ := afterDraw_eq s
  rw [hdraw] at hact
  exact (act_linkEnd hact :)

section Table

variable {i : Instr} {c : Prop} {u v : State} (h : exec i s = .next t)
  (hends : (c → exec i s = .next u) ∧ (¬ c → exec i s = .next v))

include h hends

/-- The `link_state` a dispatch leaves, when its next state is known in either case of a condition. -/
theorem linkState_of_exec_and : (c → t.linkState = u.linkState) ∧ (¬ c → t.linkState = v.linkState) := by
  obtain ⟨hpos, hneg⟩ := hends
  refine ⟨fun hc => ?_, fun hc => ?_⟩
  · cases h.symm.trans (hpos hc)
    rfl
  · cases h.symm.trans (hneg hc)
    rfl

theorem linkState_of_exec_ite [Decidable c] : t.linkState = if c then u.linkState else v.linkState := by
  obtain ⟨hpos, hneg⟩ := linkState_of_exec_and h hends
  split
  · exact hpos ‹_›
  · exact hneg ‹_›

theorem linkState_of_exec_same {l : LinkState} (hu : u.linkState = l) (hv : v.linkState = l) : t.linkState = l := by
  obtain ⟨hpos, hneg⟩ := linkState_of_exec_and h hends
  exact (em c).elim (fun hc => (hpos hc).trans hu) (fun hc => (hneg hc).trans hv)

end Table

end LinkEnds

/-- Settles O26: the table is read off the settled statements on each frame, and a step's end names the frame it completed. -/
theorem linkStateMovesOnlyAsItsTableSays : Obligations.LinkStateMovesOnlyAsItsTableSays := by
  refine ⟨fun i s t h => ?table, fun s s' h => ?step⟩
  case table =>
    cases i
    case iFrame seq more payload =>
      refine exec_iFrame_induct (fun t => t.linkState = _) h ?whole ?short ?overflow ?violation
      case whole | overflow => simp +contextual [accepted]
      case short => simp +contextual [unacknowledged]
      case violation => simp +contextual
    case uStart => exact linkState_of_exec_ite h (receivedStartIsConfirmed.2 s)
    case uStop => exact linkState_of_exec_ite h (receivedStopIsConfirmed.2 s)
    case uReset => exact linkState_of_exec_ite h (receivedResetClearsTheReceiver.2 s)
    case uTest => exact linkState_of_exec_ite h (receivedTestIsConfirmed.2 s)
    case uStartCon => exact linkState_of_exec_and h (startConfirmPopsItsStart.2 s)
    case uStopCon => exact linkState_of_exec_and h (stopConfirmPopsItsStop.2 s)
    case uResetCon => exact linkState_of_exec_same h (resetConfirmRestartsTheSender.2 s) rfl rfl
    case uTestCon => exact linkState_of_exec_same h (testConfirmClearsTheProbeCount.2 s) rfl rfl
    case aFrame => exact linkState_of_exec_same h (aFrameAcknowledgesTheSentIFrame s) rfl rfl
    all_goals exact exec_command_linkState rfl h
  case step =>
    cases step_linkEnd h with
    | kept hl => exact .inl hl
    | fatal => exact .inr (.inl ⟨rfl, rfl, rfl⟩)
    | active hread hmem hl =>
      obtain ⟨b, w, hmove, hp, hdecode⟩ := hread
      exact .inr (.inr ⟨b, w, _, hmove, hp, hdecode, .inl ⟨hmem, hl⟩⟩)
    | stopped hread hmem hl =>
      obtain ⟨b, w, hmove, hp, hdecode⟩ := hread
      exact .inr (.inr ⟨b, w, _, hmove, hp, hdecode, .inr ⟨hmem, hl⟩⟩)

end Sys2Proof.Machine
end

section
/-! SUPPORT. What an ENGINE move does in each phase of the poll, the arrows that `phase` moves along, and the settled statements of 42_engine_poll.md on them (R21, R170 to R181). -/

namespace Sys2Proof.Machine

/-! ## The ENGINE's move (R170, R181) -/

section EngineMove

variable {s : State} {r : ReadAnswer} {w : WriteResult} {rest : List Action}

/-- The step of a listed move is that move's outcome inside the time check, which no move can fail while time is unbounded. -/
theorem step_of_act {a : Action} {o : Outcome} (hsched : s.sched = a :: rest) (hact : act a { s with sched := rest } = o) :
    step s = withinTime o ∧ (s.cfg.timeW = none → step s = o) := by
  subst hact
  refine ⟨step_of_sched hsched, fun hw => (step_of_sched hsched).trans (withinTime_of_unbounded fun t ht => ?_)⟩
  have hcfg : t.cfg = s.cfg := (act_end ht).cfg_eq_and_now_le.1
  exact hcfg ▸ hw

theorem engineEnabled_iff (s : State) : engineEnabled s = true ↔ s.running = true ∧ s.fault = false := by
  simp [engineEnabled]

theorem act_engine_of_enabled (h : s.running = true ∧ s.fault = false) :
    act (.engine r w) s = engineStep { s with rxDraw := r, txDraw := w } := if_pos ((engineEnabled_iff s).2 h)

theorem act_engine_of_disabled (h : ¬ (s.running = true ∧ s.fault = false)) : act (.engine r w) s = .next s :=
  if_neg (mt (engineEnabled_iff s).1 h)

end EngineMove

/-- Settles O14: the ENGINE's enabling alone decides between its poll step and the move that only uses up its place. -/
theorem engineMoveRunsItsPollStepExactlyWhenEnabled : Obligations.EngineMoveRunsItsPollStepExactlyWhenEnabled := by
  intro s r w rest hsched
  exact ⟨fun h => step_of_act hsched (act_engine_of_enabled h), fun h => step_of_act hsched (act_engine_of_disabled h)⟩

/-! ## The poll steps, phase by phase (R171 to R177, R180) -/

section PollPhases

variable {s : State}

theorem engineStep_boundary (hp : s.phase = .boundary) : engineStep s = .next (boundaryStep s) := by
  simp only [engineStep, hp]

theorem engineStep_tx (hp : s.phase = .tx) : engineStep s = .next (txStep s) := by
  simp only [engineStep, hp]

theorem engineStep_hb (hp : s.phase = .hb) : engineStep s = .next (hbStep s) := by
  simp only [engineStep, hp]

theorem engineStep_rt (hp : s.phase = .rt) : engineStep s = .next (rtStep s) := by
  simp only [engineStep, hp]

/-- The two ends of a poll step that sends a frame, by the answer to its write (R11, R110, R230). -/
theorem engineStep_of_sendThen {F : List Byte} {cont : State → State}
    (hstep : engineStep s = .next (sendThen F cont s)) :
    (s.txDraw = .count (F.length + 1) →
      engineStep s = .next (cont { s with txLog := s.txLog ++ [(s.cfg.sync :: F, .ok)] })) ∧
    (s.txDraw ≠ .count (F.length + 1) →
      engineStep s = .next (fatalReset .transportWrite { s with txLog := s.txLog ++ [(s.cfg.sync :: F, .fail)] })) :=
  ⟨fun h => hstep.trans (congrArg _ (sendThen_ok h)), fun h => hstep.trans (congrArg _ (sendThen_fail h))⟩

variable {h : Entry} {rest : List Entry}

theorem engineStep_tx_empty (hp : s.phase = .tx) (hq : s.q = []) : engineStep s = .next { s with phase := .hb } := by
  simp only [engineStep_tx hp, txStep, hq]

theorem engineStep_tx_sent (hp : s.phase = .tx) (hq : s.q = h :: rest) (hsent : h.st = .sent) :
    engineStep s = .next { s with phase := .hb } := by
  simp only [engineStep_tx hp, txStep, hq, hsent]

/-- The transmit step sends an Idle head with the bytes `F` it is filled in to, then marks and stamps it (R173, R174). -/
theorem engineStep_tx_idle {F : List Byte} (hp : s.phase = .tx) (hq : s.q = h :: rest) (hidle : h.st = .idle)
    (hF : bytesToSend s.cfg s.sendSeq h = F) :
    (s.txDraw = .count (F.length + 1) → engineStep s = .next { s with
      q := { h with bytes := F, st := .sent, sentTime := s.now } :: rest
      txLog := s.txLog ++ [(s.cfg.sync :: F, .ok)], phase := .hb }) ∧
    (s.txDraw ≠ .count (F.length + 1) → engineStep s = .next (fatalReset .transportWrite { s with
      txLog := s.txLog ++ [(s.cfg.sync :: F, .fail)] })) := by
  have hstep : engineStep s = .next (sendThen F (fun t =>
      { setHead { h with bytes := F, st := .sent, sentTime := t.now } t with phase := .hb }) s) := by
    simp only [engineStep_tx hp, txStep, hq, hidle, hF]
  simpa only [setHead, hq, List.tail_cons] using engineStep_of_sendThen hstep

theorem hbStep_of_probe (hlate : s.hbDeadline < s.now) (hcount : s.probeCount ≤ s.cfg.probeLimit) :
    hbStep s = sendThen (uFrame s.cfg s.cfg.codeTest)
      (fun t => { t with probeCount := t.probeCount + 1, hbDeadline := t.now + t.cfg.timeHeart, phase := .rt }) s :=
  (if_pos hlate).trans (if_neg (Nat.not_lt.2 hcount))

/-- The retransmit step sends a late Sent head again and restamps it, unchanged in all else (R174, R176). -/
theorem engineStep_rt_late (hp : s.phase = .rt) (hq : s.q = h :: rest) (hdue : retransmitDue s h = true) :
    (s.txDraw = .count (h.bytes.length + 1) → engineStep s = .next { s with
      q := { h with sentTime := s.now } :: rest, txLog := s.txLog ++ [(s.cfg.sync :: h.bytes, .ok)]
      lastPoll := .ok, phase := .boundary }) ∧
    (s.txDraw ≠ .count (h.bytes.length + 1) → engineStep s = .next (fatalReset .transportWrite { s with
      txLog := s.txLog ++ [(s.cfg.sync :: h.bytes, .fail)] })) := by
  have hstep : engineStep s
      = .next (sendThen h.bytes (fun t => endOfPoll (setHead { h with sentTime := t.now } t)) s) := by
    simp only [engineStep_rt hp, rtStep, hq, hdue, if_true]
  simpa only [endOfPoll, setHead, hq, List.tail_cons] using engineStep_of_sendThen hstep

/-- With no head that is due, the poll ends (R177). -/
theorem rtStep_of_not_due (hdue : ∀ h rest, s.q = h :: rest → ¬ retransmitDue s h = true) : rtStep s = endOfPoll s := by
  unfold rtStep
  split
  · rfl
  · exact if_neg (hdue _ _ ‹_›)

theorem not_retransmitDue_iff (s : State) (h : Entry) :
    ¬ retransmitDue s h = true ↔ h.st = .idle ∨ s.now - h.sentTime ≤ s.cfg.timeAlive := by
  rw [retransmitDue_iff]
  cases h.st <;> simp

end PollPhases

/-- Settles O49: the stop request alone decides what the boundary step does. -/
theorem boundaryStepStopsOrBeginsThePoll : Obligations.BoundaryStepStopsOrBeginsThePoll := by
  intro s hp
  rw [engineStep_boundary hp]
  exact ⟨fun hstop => congrArg _ (if_pos hstop), fun hstop => congrArg _ (if_neg (by simp [hstop]))⟩

/-- Settles O50: an Idle I-frame is filled in to the I-frame of its fields, an Idle U-frame goes out as stored, and no other head is sent. -/
theorem transmitStepSendsTheIdleHead : Obligations.TransmitStepSendsTheIdleHead := by
  intro s rest hp
  refine ⟨?iFrame, ?uFrame, fun h hq hsent => engineStep_tx_sent hp hq hsent, engineStep_tx_empty hp⟩
  case iFrame =>
    intro chunk more hq
    have hends := engineStep_tx_idle hp hq rfl (fillSeqCrc_prepareIFrame s.cfg s.sendSeq more chunk)
    rw [length_iFrameBytes] at hends
    exact hends
  case uFrame => exact fun F t hq => engineStep_tx_idle hp hq rfl rfl

/-- Settles O51: the deadline, then the probe count, then the write's answer decide between the four ends. -/
theorem heartbeatStepProbesOrDeclaresTheLinkDead : Obligations.HeartbeatStepProbesOrDeclaresTheLinkDead := by
  intro s hp unit
  have hstep := engineStep_hb hp
  have hsend (hlate : s.hbDeadline < s.now) (hcount : s.probeCount ≤ 2) :=
    engineStep_of_sendThen (hstep.trans (congrArg _ (hbStep_of_probe hlate hcount)))
  refine ⟨?early, ?dead, fun hlate hcount => (hsend hlate hcount).1, fun hlate hcount => (hsend hlate hcount).2⟩
  case early => exact fun hearly => hstep.trans (congrArg _ (if_neg (Nat.not_lt.2 hearly)))
  case dead => exact fun hlate hcount => hstep.trans (congrArg _ ((if_pos hlate).trans (if_pos hcount)))

/-- Settles O52: a head is sent again exactly when it is due, and the poll ends either way unless the write fails. -/
theorem retransmitStepResendsTheLateHead : Obligations.RetransmitStepResendsTheLateHead := by
  intro s hp
  refine ⟨?late, ?quiet⟩
  case late => exact fun h rest hq hsent hlate => engineStep_rt_late hp hq ((retransmitDue_iff s h).2 ⟨hsent, hlate⟩)
  case quiet =>
    intro hquiet
    have hend := rtStep_of_not_due fun h rest hq => (not_retransmitDue_iff s h).2 (hquiet h rest hq)
    exact (engineStep_rt hp).trans (congrArg _ hend)

/-! ## The arrows of the poll sequence (R21, R170) -/

/-- How a step from phase `p` can end, by what it does to `phase`. -/
inductive PhaseEnd (p : Phase) : State → Prop where
  /-- The phase goes on. -/
  | kept {t : State} : t.phase = p → PhaseEnd p t
  /-- The sequence moves on (R170). -/
  | moved {t : State} : PhaseArrow p t.phase → PhaseEnd p t
  /-- A fatal condition ends the poll (R223). -/
  | fatal (cause : FatalCause) (u : State) : PhaseEnd p (fatalReset cause u)

section PhaseEnds

variable {s t : State}

/-- A dispatch ends phase 1 (R154) unless it faults or is fatal. -/
theorem exec_frame_phaseEnd {i : Instr} (hi : i.isCommand = false) (h : exec i s = .next t) (hp : s.phase = .rx) :
    PhaseEnd .rx t :=
  exec_frame_induct (fun _ => True) (PhaseEnd .rx) hi h trivial
    (log := fun _ _ _ _ _ => trivial) (event := fun _ _ _ => trivial) (link := fun _ _ _ => trivial)
    (clear := fun _ _ => trivial) (pop := fun _ _ => trivial) (restart := fun _ => trivial) (ack := fun _ => trivial)
    (accept := fun _ _ _ => trivial)
    (fault_ := .kept hp) (fatal := fun c u _ => .fatal c u) (finish := fun _ _ => .moved .received)

theorem FramerEnd.phaseEnd (h : FramerEnd s t) (hp : s.phase = .rx) : PhaseEnd .rx t := by
  cases h with
  | move hm => cases hm <;> exact .kept hp
  | discarded | faulted => exact .kept hp
  | dropped | quiet => exact .moved .received
  | readFailed => exact .fatal ..
  | ran hread hx _ => exact exec_frame_phaseEnd hread.isCommand hx hp

theorem boundaryStep_phaseEnd (hp : s.phase = .boundary) : PhaseEnd .boundary (boundaryStep s) :=
  boundaryStep_induct _ (stop := fun _ => .kept hp) (poll := fun _ => .moved .begin)

theorem txStep_phaseEnd (s : State) : PhaseEnd .tx (txStep s) :=
  txStep_induct _ (quiet := .moved .transmitted) (sent := fun _ _ _ _ => .moved .transmitted)
    (fail := fun _ _ _ _ => .fatal ..)

theorem hbStep_phaseEnd (s : State) : PhaseEnd .hb (hbStep s) :=
  hbStep_induct _ (quiet := .moved .arbitrated) (probe := fun _ _ => .moved .arbitrated)
    (exhausted := fun _ _ => .fatal ..) (fail := .fatal ..)

theorem rtStep_phaseEnd (s : State) : PhaseEnd .rt (rtStep s) :=
  rtStep_induct _ (quiet := .moved .ended) (resent := fun _ _ _ _ => .moved .ended)
    (fail := fun _ _ _ _ => .fatal ..)

/-- Only an ENGINE step moves the phase, and only along the arrow that leaves it. -/
theorem MoveEnd.phaseEnd (h : MoveEnd s t) : PhaseEnd s.phase t := by
  cases h with
  | command hi hx =>
    obtain ⟨-, -, -, -, -, hphase, -⟩ := exec_command_sameEngineSide hi hx
    exact .kept hphase
  | refused | disabled | clock => exact .kept rfl
  | boundary r w _ _ hp => exact hp ▸ boundaryStep_phaseEnd (s := { s with rxDraw := r, txDraw := w }) hp
  | rx r w _ _ hp he => exact hp ▸ he.phaseEnd hp
  | tx r w _ _ hp => exact hp ▸ txStep_phaseEnd { s with rxDraw := r, txDraw := w }
  | hb r w _ _ hp => exact hp ▸ hbStep_phaseEnd { s with rxDraw := r, txDraw := w }
  | rt r w _ _ hp => exact hp ▸ rtStep_phaseEnd { s with rxDraw := r, txDraw := w }

end PhaseEnds

/-- Settles O21: each phase's step keeps the phase, moves it along its arrow, or ends in the fatal reset; no other move writes it. -/
theorem phaseFollowsThePollSequence : Obligations.PhaseFollowsThePollSequence := by
  intro s s' h
  obtain ⟨sched, turn, hmove⟩ := step_drawn h
  cases hmove.phaseEnd with
  | kept hphase => exact .inl hphase
  | moved harrow => exact .inr (.inl harrow)
  | fatal => exact .inr (.inr ⟨rfl, rfl, rfl⟩)

end Sys2Proof.Machine
end

section
/-! SUPPORT. The entries a host command queues, the bytes of a message in its fragments, and the settled statements of 43_facade.md on the host commands (R93, R190 to R200, R205, R225). -/

namespace Sys2Proof.Machine

/-! ## The bytes of a prepared I-frame (R81, R83, R197) -/

section PreparedBytes

variable (c : Config) (chunk : List Byte) (more : Bool)

theorem length_prepareIFrame : (prepareIFrame c chunk more).bytes.length = chunk.length + 11 := by
  simp [prepareIFrame, le16]

theorem halfAt_prepareIFrame_1 : halfAt (prepareIFrame c chunk more).bytes 1 = lengthField more chunk.length := by
  simp [prepareIFrame, halfAt, le16]

theorem halfAt_prepareIFrame_3 : halfAt (prepareIFrame c chunk more).bytes 3 = lengthField more chunk.length := by
  simp [prepareIFrame, halfAt, le16]

theorem halfAt_prepareIFrame_6 : halfAt (prepareIFrame c chunk more).bytes 6 = 0x0000#16 := by
  simp [prepareIFrame, halfAt, le16, fromLe16]

theorem halfAt_prepareIFrame_crc : halfAt (prepareIFrame c chunk more).bytes (8 + chunk.length) = 0x0000#16 := by
  simp [prepareIFrame, halfAt, le16, fromLe16, Nat.add_comm 8]

theorem end_prepareIFrame : (prepareIFrame c chunk more).bytes[10 + chunk.length]? = some c.endMark := by
  simp [prepareIFrame, le16, Nat.add_comm 10]

theorem payload_prepareIFrame : ((prepareIFrame c chunk more).bytes.drop 8).take chunk.length = chunk := by
  simp [prepareIFrame, le16]

end PreparedBytes

/-- Settles O9: both length copies hold the same field, which reads back within its 15 bits; the other fields stand at their offsets. -/
theorem preparedIFrameHasItsFields : Obligations.PreparedIFrameHasItsFields := by
  intro c chunk more hL
  have hcopy := halfAt_prepareIFrame_1 c chunk more
  refine ⟨rfl, rfl, rfl, length_prepareIFrame .., rfl, rfl, end_prepareIFrame .., ?copies, ?more, ?length,
    halfAt_prepareIFrame_6 .., halfAt_prepareIFrame_crc .., payload_prepareIFrame ..⟩
  case copies => exact hcopy.trans (halfAt_prepareIFrame_3 ..).symm
  case more => exact (congrArg moreOf hcopy).trans (moreOf_lengthField _ _ hL)
  case length => exact (congrArg lengthOf hcopy).trans (lengthOf_lengthField _ _ hL)

/-! ## The commands' own frames (R190 to R200, R225) -/

/-- Settles O10: the HOST move runs the command that its bytes decode to, inside the time check. -/
theorem stepRunsTheHostCommand : Obligations.StepRunsTheHostCommand := by
  intro s bytes rest i hsched hdecode
  have hcommand : decodeCommand bytes = .ok i := hdecode
  exact step_of_act hsched (by simp only [act, hostStep, hcommand])

/-- Settles O54: `running` alone decides whether CMD_START writes more than its log entry. -/
theorem startCommandStartsOnce : Obligations.StartCommandStartsOnce := by
  refine ⟨rfl, fun s => ⟨fun hrun => ?stopped, fun hrun => ?running⟩⟩
  case stopped => exact congrArg (Host.Outcome.next ∘ logCmd .cmdStart .ok) (if_neg (by simp [hrun]))
  case running => exact congrArg (Host.Outcome.next ∘ logCmd .cmdStart .ok) (if_pos hrun)

/-- CMD_STOP of a running block only records the request and the thread that waits (R192). -/
theorem exec_cmdStop_of_running {s : State} (hrun : s.running = true) :
    exec .cmdStop s = .next { s with stopReq := true, stopWaiting := s.stopWaiting + 1 } :=
  congrArg _ (if_pos hrun)

/-- Settles O55: a stopped block is cleared at once; a running one holds the request, which the boundary step then completes (O49). -/
theorem stopCommandClearsAtOnceOrAtTheBoundary : Obligations.StopCommandClearsAtOnceOrAtTheBoundary := by
  refine ⟨rfl, fun s => ⟨fun hrun => ?stopped, exec_cmdStop_of_running, fun hrun hp => ?boundary⟩⟩
  case stopped => exact congrArg _ (if_neg (by simp [hrun]))
  case boundary =>
    let requested : State := { s with stopReq := true, stopWaiting := s.stopWaiting + 1 }
    exact ⟨requested, exec_cmdStop_of_running hrun, (boundaryStepStopsOrBeginsThePoll requested hp).1 rfl⟩

/-- Settles O59: each decoding and each write of an enable bit is its definition. -/
theorem registrationCommandsCopyBitZero : Obligations.RegistrationCommandsCopyBitZero :=
  ⟨fun _ => ⟨rfl, rfl⟩, fun _ _ => ⟨rfl, rfl⟩⟩

/-- A command whose effect `running` alone decides has one of two next states. -/
theorem exec_running_cases {i : Instr} {s t u v : State} (h : exec i s = .next t)
    (stopped : s.running = false → exec i s = .next u) (running : s.running = true → exec i s = .next v) :
    t = u ∨ t = v := by
  obtain hrun | hrun := s.running.eq_false_or_eq_true
  · cases h.symm.trans (running hrun)
    exact .inr rfl
  · cases h.symm.trans (stopped hrun)
    exact .inl rfl

/-- Settles O28: CMD_START and CMD_STOP by `running` (O54, O55); a push writes only the queue and the log (`pushAll_frame`). -/
theorem eachHostCommandChangesOnlyWhatItsRuleNames : Obligations.EachHostCommandChangesOnlyWhatItsRuleNames := by
  intro i s t h
  cases i
  case iFrame | aFrame => exact trivial
  case uStart | uStartCon | uReset | uResetCon | uStop | uStopCon | uTest | uTestCon => exact trivial
  case cmdStart =>
    obtain ⟨stopped, running⟩ := startCommandStartsOnce.2 s
    obtain rfl | rfl := exec_running_cases h stopped running <;> rfl
  case cmdStop =>
    obtain ⟨stopped, running, -⟩ := stopCommandClearsAtOnceOrAtTheBoundary.2 s
    obtain rfl | rfl := exec_running_cases h stopped running <;> rfl
  case cmdBegin | cmdReset | cmdEnd | cmdSend =>
    cases h
    exact pushAll_frame ..
  case cmdRegRx | cmdRegEvt =>
    cases h
    rfl

/-! ## The commands that queue entries (R193 to R196) -/

/-- Both ends of a command that pushes its entries: all of them at the tail, or none (R67, R190). -/
theorem exec_of_pushAll {i : Instr} {es : List Entry} {s : State} (hexec : exec i s = .next (pushAll i es s)) :
    (s.q.length + es.length ≤ s.cfg.queueDepth →
      exec i s = .next { s with q := s.q ++ es, cmdLog := s.cmdLog ++ [(i, .ok)] }) ∧
    (s.cfg.queueDepth < s.q.length + es.length →
      exec i s = .next { s with cmdLog := s.cmdLog ++ [(i, .queueFull)] }) :=
  ⟨fun hfits => hexec.trans (congrArg _ (pushAll_fits hfits)), fun hfull => hexec.trans (congrArg _ (pushAll_full hfull))⟩

/-- Settles O56: each of the three pushes one prepared control frame, for which there is room exactly below QUEUE_DEPTH. -/
theorem lifecycleCommandsQueueTheirControlFrames : Obligations.LifecycleCommandsQueueTheirControlFrames := by
  refine ⟨⟨rfl, rfl, rfl⟩, fun s => ?_⟩
  obtain ⟨beginFits, beginFull⟩ := exec_of_pushAll (i := .cmdBegin) (s := s) rfl
  obtain ⟨resetFits, resetFull⟩ := exec_of_pushAll (i := .cmdReset) (s := s) rfl
  obtain ⟨endFits, endFull⟩ := exec_of_pushAll (i := .cmdEnd) (s := s) rfl
  exact ⟨fun hroom => ⟨beginFits hroom, resetFits hroom, endFits hroom⟩, fun hfull =>
    have hover := Nat.lt_succ_of_le hfull
    ⟨beginFull hover, resetFull hover, endFull hover⟩⟩

theorem length_fragmentEntries (c : Config) (m : List Byte) : (fragmentEntries c m).length = fragmentCount c m := by
  simp [fragmentEntries]

/-- CMD_SEND pushes its fragments when their count fits, and none of them otherwise (R196). -/
theorem exec_cmdSend (s : State) (m : List Byte) :
    (s.q.length + fragmentCount s.cfg m ≤ s.cfg.queueDepth → exec (.cmdSend m) s = .next { s with
      q := s.q ++ fragmentEntries s.cfg m, cmdLog := s.cmdLog ++ [(.cmdSend m, .ok)] }) ∧
    (s.cfg.queueDepth < s.q.length + fragmentCount s.cfg m →
      exec (.cmdSend m) s = .next { s with cmdLog := s.cmdLog ++ [(.cmdSend m, .queueFull)] }) := by
  rw [← length_fragmentEntries]
  exact exec_of_pushAll rfl

/-- Settles O57: the fragments written out in the statement are `fragmentEntries`. -/
theorem sendCommandQueuesAllFragmentsOrNone : Obligations.SendCommandQueuesAllFragmentsOrNone :=
  ⟨fun _ => rfl, fun s m _ => exec_cmdSend s m⟩

/-! ## The bytes of a message in its fragments (R205) -/

section Payloads

variable (c : Config) (m : List Byte)

/-- The fragments' payloads in order. -/
def payloads : List (List Byte) := (List.range (fragmentCount c m)).map (chunkAt c m)

/-- The first `n` fragments joined, by induction on `n`. -/
theorem flatten_chunkAt_range (n : Nat) : ((List.range n).map (chunkAt c m)).flatten = m.take (n * c.maxPayload) := by
  induction n with
  | zero => simp
  | succ n ih => simp [List.range_succ, ih, take_append_chunkAt]

theorem length_chunkAt (i : Nat) : (chunkAt c m i).length = min c.maxPayload (m.length - i * c.maxPayload) := by
  simp [chunkAt]

theorem length_payloads : (payloads c m).length = fragmentCount c m := by simp [payloads]

theorem getElem?_payloads {i : Nat} (hi : i < fragmentCount c m) : (payloads c m)[i]? = some (chunkAt c m i) := by
  simp [payloads, hi]

/-- The prepared entries of the payloads are CMD_SEND's. -/
theorem mapIdx_payloads :
    (payloads c m).mapIdx (fun i chunk => prepareIFrame c chunk (i + 1 < fragmentCount c m)) = fragmentEntries c m := by
  simp only [fragmentEntries, Nat.lt_sub_iff_add_lt]
  exact List.ext_getElem (by simp [payloads]) fun i _ _ => by simp [payloads]

variable {c}

/-- The ceiling of n / M: the fragments reach the end of the message (R196). -/
theorem length_le_fragmentCount_mul (hM : 1 ≤ c.maxPayload) : m.length ≤ fragmentCount c m * c.maxPayload := by
  obtain rfl | hm := eq_or_ne m []
  · exact Nat.zero_le _
  · obtain ⟨k, hk, hlast⟩ := fragmentCount_eq_succ hM hm
    rwa [hk]

/-- The ceiling of n / M: the fragments but the last do not reach the end of the message (R196). -/
theorem mul_lt_length_of_lt_fragmentCount {i : Nat} (hM : 1 ≤ c.maxPayload) (hi : i < fragmentCount c m) :
    i * c.maxPayload < m.length := by
  have : (i + 1) * c.maxPayload ≤ m.length + c.maxPayload - 1 := (Nat.le_div_iff_mul_le hM).1 hi
  rw [Nat.succ_mul] at this
  omega

theorem flatten_payloads (hM : 1 ≤ c.maxPayload) : (payloads c m).flatten = m := by
  rw [payloads, flatten_chunkAt_range, List.take_of_length_le (length_le_fragmentCount_mul m hM)]

/-- A fragment with another one after it is full. -/
theorem length_chunkAt_of_more {i : Nat} (hM : 1 ≤ c.maxPayload) (hi : i + 1 < fragmentCount c m) :
    (chunkAt c m i).length = c.maxPayload := by
  have := mul_lt_length_of_lt_fragmentCount m hM hi
  rw [Nat.succ_mul] at this
  rw [length_chunkAt]
  omega

/-- The last fragment holds the rest. -/
theorem length_chunkAt_last {i : Nat} (hM : 1 ≤ c.maxPayload) (hi : i + 1 = fragmentCount c m) :
    (chunkAt c m i).length = m.length - i * c.maxPayload := by
  have := length_le_fragmentCount_mul m hM
  rw [← hi, Nat.succ_mul] at this
  rw [length_chunkAt]
  omega

end Payloads

/-- Settles O58: the payloads of the pushed entries are the message cut every MAX_PAYLOAD bytes. -/
theorem fragmentsCoverTheMessageInOrder : Obligations.FragmentsCoverTheMessageInOrder := by
  intro s m hM M k hfits
  refine ⟨payloads s.cfg m, _, (exec_cmdSend s m).1 hfits, rfl, ?queue, length_payloads .., flatten_payloads m hM, ?full, ?last⟩
  case queue => exact congrArg _ (mapIdx_payloads ..).symm
  case full =>
    intro i chunk hi hchunk
    cases (getElem?_payloads _ _ (Nat.lt_of_succ_lt hi)).symm.trans hchunk
    exact length_chunkAt_of_more m hM hi
  case last =>
    intro i chunk hi hchunk
    cases (getElem?_payloads _ _ (Nat.lt_of_succ_le hi.le)).symm.trans hchunk
    exact length_chunkAt_last m hM hi

end Sys2Proof.Machine
end

section
/-! SUPPORT. The answer of a transport write, and the settled statements of 60_exceptions.md on the fatal reset and the transport (R11, R223, R230). -/

namespace Sys2Proof.Machine

/-! ## The answer of a transport write (R11, R230) -/

section TransportWrite

variable {s : State} (l : List Byte)

theorem txWrite_of_count {n : Nat} (h : s.txDraw = .count n) : txWrite l s = if n = l.length then .ok else .fail := by
  rw [txWrite, h]

theorem txWrite_of_failure (h : s.txDraw = .failure) : txWrite l s = .fail := by
  rw [txWrite, h]

end TransportWrite

/-- Settles O37: a count answers OK when it is the unit's length, and a failure never does. -/
theorem aWriteIsOkExactlyWhenWhole : Obligations.AWriteIsOkExactlyWhenWhole := by
  intro l s
  cases h : s.txDraw with
  | count n => simp [txWrite_of_count l h]
  | failure => simp [txWrite_of_failure l h]

/-- Settles O36: R223's sequence is `fatalReset`'s own list of writes, and `Emit` writes `ev_log` alone. -/
theorem fatalResetWritesItsSequence : Obligations.FatalResetWritesItsSequence := fun _ _ => rfl

end Sys2Proof.Machine
end

section
/-! SUPPORT. A run in which nothing is received and no write fails, move by move and poll by poll, and the settled statement of 70_reset_and_hazards.md on it (R170, R175, R180, R262). -/

namespace Sys2Proof.Machine

/-! ## The probe among the units on the line -/

/-- The entry that a heartbeat probe leaves in `tx_log` (R175). -/
def probeUnit (c : Config) : List Byte × WriteAnswer := (wireUnit c (uFrame c c.codeTest), .ok)

/-- No command queues a TEST, so what a queued entry puts on the line is not a probe. -/
theorem Entry.FrameOk.bytes_ne_probe {c : Config} {seq : Half} {e : Entry} (hc : c.WellFormed = true)
    (h : e.FrameOk c seq) (hsent : e.st = .sent) : (c.sync :: e.bytes, WriteAnswer.ok) ≠ probeUnit c := by
  suffices hne : e.bytes ≠ uFrame c c.codeTest by simpa [probeUnit, wireUnit] using hne
  cases hk : e.kind with
  | ki =>
    simp only [Entry.FrameOk, hk, hsent] at h
    obtain ⟨chunk, more, -, hbytes⟩ := h
    have hmark := Config.uMark_ne_iMark hc
    simp [hbytes, iFrameBytes, uFrame, hmark.symm]
  | ku =>
    simp only [Entry.FrameOk, hk] at h
    obtain ⟨-, hcodes, -⟩ := c.wellFormed_iff.1 hc
    have hcode {code : Byte} (hne : code ≠ c.codeTest) (hb : e.bytes = uFrame c code) :
        e.bytes ≠ uFrame c c.codeTest := by
      simp [hb, uFrame, hne]
    simp only [Config.CodesDistinct, List.nodup_cons, List.mem_cons, not_or] at hcodes
    obtain ⟨⟨-, hstart, -⟩, -, ⟨-, hstop, -, hreset, -⟩, -⟩ := hcodes
    exact h.elim (hcode hstart) fun h => h.elim (hcode (Ne.symm hreset)) (hcode (Ne.symm hstop))

/-! ## One move of a silent run -/

/-- A run goes on from the state it has reached. -/
theorem run_add {s t : State} {n : Nat} (h : Sys2Proof.core.run n s = .next t) (m : Nat) :
    Sys2Proof.core.run (n + m) s = Sys2Proof.core.run m t := by
  induction n generalizing s with
  | zero =>
    cases h
    rw [Nat.zero_add]
  | succ n ih =>
    cases hstep : step s with
    | next u =>
      rw [run_succ_of_step hstep] at h
      rw [Nat.succ_add, run_succ_of_step hstep, ih h]
    | fault r =>
      have hstep : Sys2Proof.core.step s = .fault r := hstep
      simp [Host.Core.run, hstep] at h
    | refused r =>
      have hstep : Sys2Proof.core.step s = .refused r := hstep
      simp [Host.Core.run, hstep] at h

/-- No write fails in the first `N` moves from `s`. -/
def NoWriteFails (s : State) (N : Nat) : Prop :=
  ∀ n t, n ≤ N → Sys2Proof.core.run n s = .next t → ∀ u ∈ t.txLog.drop s.txLog.length, u.2 = .ok

/-- `t` has the moves to come and the HOST's controls of `v`, and has not faulted if `v` has not. -/
def SameControls (v t : State) : Prop :=
  t.sched = v.sched ∧ t.running = v.running ∧ t.fault = v.fault ∧ t.stopReq = v.stopReq

/-- The state in which an ENGINE move with the write answer `w` takes its step when nothing is received, with the moves `sched` left. -/
def quietDraw (w : WriteResult) (sched : List Action) (t : State) : State :=
  { t with sched := sched, rxDraw := .timeout, txDraw := w }

/-- `t` is what `n` of the `N` moves of a silent run from `s` lead to, with the moves `todo` left of them: the block still polls, and has sent as many probes as it counts. -/
structure SilentAt (s : State) (N : Nat) (rest : List Action) (todo : List Action) (n : Nat) (t : State) : Prop where
  length : n + todo.length = N
  run : Sys2Proof.core.run n s = .next t
  writes : NoWriteFails s N
  sched : t.sched = todo ++ rest
  inv : t.Inv
  frames : t.QueueFramesOk
  cfg : t.cfg = s.cfg
  unbounded : t.cfg.timeW = none
  enabled : t.running = true ∧ t.fault = false
  noStop : t.stopReq = false
  probes : ∃ units, t.txLog = s.txLog ++ units ∧ units.count (probeUnit s.cfg) = t.probeCount

section SilentMoves

variable {s t t' : State} {N n : Nat} {rest todo : List Action} {a : Action} {w : WriteResult}

theorem SilentAt.step_eq (h : SilentAt s N rest (a :: todo) n t) (hact : act a { t with sched := todo ++ rest } = .next t') :
    step t = .next t' :=
  (step_of_act h.sched hact).2 h.unbounded

theorem SilentAt.run_succ (h : SilentAt s N rest (a :: todo) n t)
    (hact : act a { t with sched := todo ++ rest } = .next t') : Sys2Proof.core.run (n + 1) s = .next t' :=
  (run_add h.run 1).trans (run_succ_of_step (h.step_eq hact) 0)

theorem SilentAt.act_engine (h : SilentAt s N rest (.engine .timeout w :: todo) n t) :
    act (.engine .timeout w) { t with sched := todo ++ rest } = engineStep (quietDraw w (todo ++ rest) t) :=
  act_engine_of_enabled (s := { t with sched := todo ++ rest }) h.enabled

/-- A move goes on with the silent run when it leaves the controls alone and counts the probes that it sends. -/
theorem SilentAt.move (h : SilentAt s N rest (a :: todo) n t) (hact : act a { t with sched := todo ++ rest } = .next t')
    (hsame : SameControls { t with sched := todo ++ rest } t') (units : List (List Byte × WriteAnswer))
    (hlog : t'.txLog = t.txLog ++ units) (hcount : t'.probeCount = t.probeCount + units.count (probeUnit t.cfg)) :
    SilentAt s N rest todo (n + 1) t' := by
  have hstep := h.step_eq hact
  have hcfg := (step_cfg_eq_and_now_le hstep).1
  obtain ⟨hsched, hrunning, hfault, hstop⟩ := hsame
  obtain ⟨sent, hsent, hsentCount⟩ := h.probes
  exact
    { length := by rw [← h.length, List.length_cons]; omega
      run := h.run_succ hact
      writes := h.writes
      sched := hsched
      inv := everyStepKeepsTheInvariant t t' h.inv hstep
      frames := everyStepKeepsTheQueuedFramesWellFormed t t' h.inv h.frames hstep
      cfg := hcfg.trans h.cfg
      unbounded := hcfg ▸ h.unbounded
      enabled := ⟨hrunning.trans h.enabled.1, hfault.trans h.enabled.2⟩
      noStop := hstop.trans h.noStop
      probes := ⟨sent ++ units, by rw [hlog, hsent, List.append_assoc],
        by rw [List.count_append, hsentCount, hcount, h.cfg]⟩ }

/-- A move that sends nothing. -/
theorem SilentAt.quiet (h : SilentAt s N rest (a :: todo) n t) (hact : act a { t with sched := todo ++ rest } = .next t')
    (hsame : SameControls { t with sched := todo ++ rest } t') (hlog : t'.txLog = t.txLog)
    (hcount : t'.probeCount = t.probeCount) : SilentAt s N rest todo (n + 1) t' :=
  h.move hact hsame [] (by simp [hlog]) (by simp [hcount])

/-- A move that sends one unit of the queue. -/
theorem SilentAt.unit (h : SilentAt s N rest (a :: todo) n t) (hact : act a { t with sched := todo ++ rest } = .next t')
    (hsame : SameControls { t with sched := todo ++ rest } t') {e : Entry} (he : e.FrameOk t.cfg t.sendSeq)
    (hsent : e.st = .sent) (hlog : t'.txLog = t.txLog ++ [(t.cfg.sync :: e.bytes, .ok)])
    (hcount : t'.probeCount = t.probeCount) : SilentAt s N rest todo (n + 1) t' :=
  h.move hact hsame _ hlog (by simp [hcount, he.bytes_ne_probe h.inv.cfgWellFormed hsent])

/-- Where a write of another count ends in the fatal reset, the write is whole: the log would show its failure. -/
theorem SilentAt.write_whole (h : SilentAt s N rest (.engine .timeout w :: todo) n t) {m : Nat} {unit : List Byte}
    (hfail : w ≠ .count m → engineStep (quietDraw w (todo ++ rest) t) = .next (fatalReset .transportWrite
      { quietDraw w (todo ++ rest) t with txLog := t.txLog ++ [(unit, .fail)] })) : w = .count m := by
  by_contra hw
  have hrun := h.run_succ (h.act_engine.trans (hfail hw))
  have hle : n + 1 ≤ N := by rw [← h.length, List.length_cons]; omega
  obtain ⟨sent, hsent, -⟩ := h.probes
  have hok := h.writes (n + 1) _ hle hrun (unit, .fail) (by simp [hsent])
  cases hok

end SilentMoves

/-! ## One poll of a silent run -/

/-- A silent run waits in phase `p` at the time `now`, with its heartbeat deadline at `deadline`, `k` probes sent and the moves `todo` to come. -/
def Silent (s : State) (N : Nat) (rest : List Action) (p : Phase) (now deadline k : Nat) (todo : List Action) : Prop :=
  ∃ n t, SilentAt s N rest todo n t ∧ t.phase = p ∧ t.now = now ∧ t.hbDeadline = deadline ∧ t.probeCount = k

section SilentPolls

variable {s : State} {N now deadline k d : Nat} {rest todo : List Action} {w w' : WriteResult} {p : SilentPoll}

/-- CLOCK advances (R8). -/
theorem Silent.clock {phase : Phase} (h : Silent s N rest phase now deadline k (.clock d :: todo)) :
    Silent s N rest phase (now + d) deadline k todo := by
  obtain ⟨n, t, h, hp, rfl, rfl, rfl⟩ := h
  exact ⟨_, _, h.quiet rfl ⟨rfl, rfl, rfl, rfl⟩ rfl rfl, hp, rfl, rfl, rfl⟩

/-- The boundary step begins the poll, and the line is quiet (R113, R128, R171). -/
theorem Silent.begin (h : Silent s N rest .boundary now deadline k (.engine .timeout w :: .engine .timeout w' :: todo)) :
    Silent s N rest .tx now deadline k todo := by
  obtain ⟨n, t, h, hp, rfl, rfl, rfl⟩ := h
  obtain ⟨-, hpoll⟩ := boundaryStepStopsOrBeginsThePoll (quietDraw w _ t) hp
  have hrx := h.quiet (h.act_engine.trans (hpoll h.noStop)) ⟨rfl, rfl, rfl, rfl⟩ rfl rfl
  obtain ⟨-, -, -, hline, -⟩ := huntStepSkipsToSync
    (quietDraw w' (todo ++ rest) { quietDraw w _ t with phase := .rx, rxState := .hunt }) rfl rfl
  exact ⟨_, _, hrx.quiet (hrx.act_engine.trans (hline rfl)) ⟨rfl, rfl, rfl, rfl⟩ rfl rfl, rfl, rfl, rfl, rfl⟩

/-- The transmit step sends an Idle head, if there is one (R173). -/
theorem Silent.transmit (h : Silent s N rest .tx now deadline k (.engine .timeout w :: todo)) :
    Silent s N rest .hb now deadline k todo := by
  obtain ⟨n, t, h, hp, rfl, rfl, rfl⟩ := h
  have hp' : (quietDraw w (todo ++ rest) t).phase = .tx := hp
  cases hq : t.q with
  | nil =>
    exact ⟨_, _, h.quiet (h.act_engine.trans (engineStep_tx_empty hp' hq)) ⟨rfl, rfl, rfl, rfl⟩ rfl rfl,
      rfl, rfl, rfl, rfl⟩
  | cons e tail =>
    have hq' : (quietDraw w (todo ++ rest) t).q = e :: tail := hq
    cases hst : e.st with
    | sent =>
      exact ⟨_, _, h.quiet (h.act_engine.trans (engineStep_tx_sent hp' hq' hst)) ⟨rfl, rfl, rfl, rfl⟩ rfl rfl,
        rfl, rfl, rfl, rfl⟩
    | idle =>
      obtain ⟨hsend, hfail⟩ := engineStep_tx_idle hp' hq' hst rfl
      have hact := h.act_engine.trans (hsend (h.write_whole hfail))
      have hframe := (h.frames.head hq).transmit hst t.now
      exact ⟨_, _, h.unit hact ⟨rfl, rfl, rfl, rfl⟩ hframe rfl rfl rfl, rfl, rfl, rfl, rfl⟩

/-- At the deadline or before it the heartbeat step does nothing (R175, R180). -/
theorem Silent.heartbeat_early (h : Silent s N rest .hb now deadline k (.engine .timeout w :: todo))
    (hearly : now ≤ deadline) : Silent s N rest .rt now deadline k todo := by
  obtain ⟨n, t, h, hp, rfl, rfl, rfl⟩ := h
  obtain ⟨hquiet, -⟩ := heartbeatStepProbesOrDeclaresTheLinkDead (quietDraw w (todo ++ rest) t) hp
  exact ⟨_, _, h.quiet (h.act_engine.trans (hquiet hearly)) ⟨rfl, rfl, rfl, rfl⟩ rfl rfl, rfl, rfl, rfl, rfl⟩

/-- Past the deadline the heartbeat step sends one of the first three probes and arms the next deadline (R175, R180). -/
theorem Silent.heartbeat_probe (h : Silent s N rest .hb now deadline k (.engine .timeout w :: todo))
    (hlate : deadline < now) (hk : k ≤ 2) : Silent s N rest .rt now (now + s.cfg.timeHeart) (k + 1) todo := by
  obtain ⟨n, t, h, hp, rfl, rfl, rfl⟩ := h
  obtain ⟨-, -, hprobe, hfail⟩ := heartbeatStepProbesOrDeclaresTheLinkDead (quietDraw w (todo ++ rest) t) hp
  have hact := h.act_engine.trans (hprobe hlate hk (h.write_whole (hfail hlate hk)))
  exact ⟨_, _, h.move hact ⟨rfl, rfl, rfl, rfl⟩ [probeUnit t.cfg] rfl (by simp [quietDraw]),
    rfl, rfl, congrArg (fun c => t.now + c.timeHeart) h.cfg, rfl⟩

/-- The retransmit step sends a late head again, if there is one, and ends the poll (R176, R177). -/
theorem Silent.retransmit (h : Silent s N rest .rt now deadline k (.engine .timeout w :: todo)) :
    Silent s N rest .boundary now deadline k todo := by
  obtain ⟨n, t, h, hp, rfl, rfl, rfl⟩ := h
  have hp' : (quietDraw w (todo ++ rest) t).phase = .rt := hp
  by_cases hlate : ∃ e tail, t.q = e :: tail ∧ retransmitDue t e = true
  · obtain ⟨e, tail, hq, hdue⟩ := hlate
    have hq' : (quietDraw w (todo ++ rest) t).q = e :: tail := hq
    obtain ⟨hsend, hfail⟩ := engineStep_rt_late hp' hq' hdue
    have hact := h.act_engine.trans (hsend (h.write_whole hfail))
    have hsent : e.st = .sent := ((retransmitDue_iff t e).1 hdue).1
    exact ⟨_, _, h.unit hact ⟨rfl, rfl, rfl, rfl⟩ (h.frames.head hq) hsent rfl rfl, rfl, rfl, rfl, rfl⟩
  · have hend : rtStep (quietDraw w (todo ++ rest) t) = endOfPoll (quietDraw w (todo ++ rest) t) :=
      rtStep_of_not_due fun e tail hq hdue => hlate ⟨e, tail, hq, hdue⟩
    have hact := h.act_engine.trans ((engineStep_rt hp').trans (congrArg _ hend))
    exact ⟨_, _, h.quiet hact ⟨rfl, rfl, rfl, rfl⟩ rfl rfl, rfl, rfl, rfl, rfl⟩

/-- Past the deadline with three probes sent the heartbeat step, the run's last, declares the link dead (R175, R180). -/
theorem Silent.heartbeat_dead (h : Silent s N rest .hb now deadline 3 [.engine .timeout w]) (hlate : deadline < now) :
    ∃ t, Sys2Proof.core.run N s = .next (fatalReset .probeExhausted t) ∧
      (t.txLog.drop s.txLog.length).count (probeUnit s.cfg) = 3 ∧ t.running = true ∧ t.now = now ∧ t.cfg = s.cfg := by
  obtain ⟨n, t, h, hp, rfl, rfl, hk⟩ := h
  obtain ⟨-, hdead, -⟩ := heartbeatStepProbesOrDeclaresTheLinkDead (quietDraw w ([] ++ rest) t) hp
  have hact := h.act_engine.trans (hdead hlate (by simp [quietDraw, hk]))
  obtain ⟨sent, hsent, hcount⟩ := h.probes
  exact ⟨quietDraw w ([] ++ rest) t, h.length ▸ h.run_succ hact, by simp [quietDraw, hsent, hcount, hk], h.enabled.1, rfl, h.cfg⟩

/-- A poll that ends by the deadline leaves deadline and probes as they are. -/
theorem Silent.poll_early (h : Silent s N rest .boundary now deadline k (p.moves ++ todo))
    (hearly : now + p.ticks ≤ deadline) : Silent s N rest .boundary (now + p.ticks) deadline k todo :=
  (h.clock.begin.transmit.heartbeat_early hearly).retransmit

/-- The first poll past the deadline sends a probe. -/
theorem Silent.poll_probe (h : Silent s N rest .boundary now deadline k (p.moves ++ todo))
    (hlate : deadline < now + p.ticks) (hk : k ≤ 2) :
    Silent s N rest .boundary (now + p.ticks) (now + p.ticks + s.cfg.timeHeart) (k + 1) todo :=
  (h.clock.begin.transmit.heartbeat_probe hlate hk).retransmit

/-! ## Many polls of a silent run -/

/-- However many polls pass, if they end by the deadline. -/
theorem Silent.polls_early {early : List SilentPoll}
    (h : Silent s N rest .boundary now deadline k (early.flatMap SilentPoll.moves ++ todo))
    (hearly : early ≠ [] → now + SilentPoll.ticksOf early ≤ deadline) :
    Silent s N rest .boundary (now + SilentPoll.ticksOf early) deadline k todo := by
  induction early generalizing now with
  | nil => exact h
  | cons p early ih =>
    have hticks : SilentPoll.ticksOf (p :: early) = p.ticks + SilentPoll.ticksOf early := List.sum_cons
    have hend := hearly (by simp)
    rw [hticks, ← Nat.add_assoc] at hend ⊢
    rw [List.flatMap_cons, List.append_assoc] at h
    exact ih (h.poll_early (by omega)) fun _ => hend

/-- From one probe to the next: early polls, then the first past the deadline. -/
theorem Silent.next_probe {early : List SilentPoll} {late : SilentPoll}
    (h : Silent s N rest .boundary now deadline k (early.flatMap SilentPoll.moves ++ (late.moves ++ todo)))
    (hearly : early ≠ [] → now + SilentPoll.ticksOf early ≤ deadline)
    (hlate : deadline < now + SilentPoll.ticksOf early + late.ticks) (hk : k ≤ 2) :
    Silent s N rest .boundary (now + SilentPoll.ticksOf early + late.ticks)
      (now + SilentPoll.ticksOf early + late.ticks + s.cfg.timeHeart) (k + 1) todo :=
  (h.polls_early hearly).poll_probe hlate hk

end SilentPolls

/-- Settles O53: three times early polls and a probe, then early polls and the poll in which the link is declared dead. -/
theorem silentPeerIsDeclaredDeadAtTheFourthDeadline : Obligations.SilentPeerIsDeclaredDeadAtTheFourthDeadline := by
  intro s early₁ early₂ early₃ early₄ late₁ late₂ late₃ late₄ rest H polls moves probe hinv hframes hwidth hp hrunning
    hfault hstop hk hearly₁ hlate₁ hearly₂ hlate₂ hearly₃ hlate₃ hearly₄ hlate₄ hsched hwrites
  have hmoves : moves = early₁.flatMap SilentPoll.moves ++ (late₁.moves ++ (early₂.flatMap SilentPoll.moves ++
      (late₂.moves ++ (early₃.flatMap SilentPoll.moves ++ (late₃.moves ++
        (early₄.flatMap SilentPoll.moves ++ late₄.deadMoves)))))) := by
    simp [moves, polls]
  clear_value moves
  subst hmoves
  have hstart : Silent s _ rest .boundary s.now s.hbDeadline 0 _ :=
    have hat : SilentAt s _ rest _ 0 s :=
      { length := Nat.zero_add _
        run := rfl
        writes := hwrites
        sched := hsched
        inv := hinv
        frames := hframes
        cfg := rfl
        unbounded := hwidth
        enabled := ⟨hrunning, hfault⟩
        noStop := hstop
        probes := ⟨[], by simp, hk.symm⟩ }
    ⟨0, s, hat, hp, rfl, rfl, hk⟩
  have hone := hstart.next_probe hearly₁ hlate₁ (by omega)
  have htwo := hone.next_probe (by omega) (by omega) (by omega)
  have hthree := htwo.next_probe (by omega) (by omega) (by omega)
  have hfourth := (hthree.polls_early (by omega)).clock.begin.transmit
  obtain ⟨t, hrun, hcount, htrunning, hnow, hcfg⟩ := hfourth.heartbeat_dead (by omega)
  refine ⟨fatalReset .probeExhausted t, hrun, hcount, rfl, rfl, rfl, htrunning, rfl, ?now, ?deadline⟩
  case now =>
    simp [polls, SilentPoll.ticksOf] at hnow ⊢
    omega
  case deadline => exact congrArg (fun c => t.now + c.timeHeart) hcfg

end Sys2Proof.Machine
end
